-- ==== Sys2Proof/Word.lean ====
section
/-! DEFINITION. The words that cross the interface and the words registers hold: the byte, the
unsigned 32-bit operand, the IEEE binary32 sample and the IEEE binary64 register. -/

namespace Sys2Proof

/-- `U8` of R71: the unit of the serialised form (R52). -/
abbrev Byte := BitVec 8

/-- `U32` of R71. -/
abbrev U32 := BitVec 32

/-- `F32` of R8 and R71: the bit pattern of an IEEE 754 binary32 value. -/
structure F32 where
  bits : BitVec 32
  deriving DecidableEq, Repr, Inhabited

/-- The type `F` of real-valued state in the default realisation of R9: the bit pattern of an
IEEE 754 binary64 value. -/
structure F64 where
  bits : BitVec 64
  deriving DecidableEq, Repr, Inhabited

end Sys2Proof
end

