-- ==== Sys2Proof/Syntax.lean ====
section
/-! DEFINITION. The operations of R74 as syntax: one constructor per row of spec/opcode_table.json,
its operands as R71 types them. The `instance` part of a command (R70) is no part of the operation:
it travels with the command (Sys2Proof/Machine/State.lean). -/

namespace Sys2Proof

/-- The nine unit kinds of R2. -/
inductive UnitKind where
  | osc | goertzel | fskdet | bpf | cbpf | baudot | varicode | fskdemod | pskdemod
  deriving DecidableEq, Repr

/-- One operation with its operands (R74). -/
inductive Instr where
  | oscReset
  | oscNextSample
  | oscGenerateCount (count : U32)
  | oscGenerateDuration (seconds : F32)
  | oscSetFrequency (hz : F32)
  | oscSetPhase (radians : F32)
  | goertzelReset
  | goertzelProcess (sample : F32)
  | goertzelProcessBlock (samples : List F32)
  | fskdetReset
  | fskdetProcess (sample : F32)
  | fskdetProcessBlock (samples : List F32)
  | bpfReset
  | bpfProcess (sample : F32)
  | bpfProcessBlock (samples : List F32)
  | bpfMag (hz : F32)
  | bpfMagDb (hz : F32)
  | cbpfReset
  | cbpfProcess (sample : F32)
  | cbpfProcessBlock (samples : List F32)
  | cbpfMag (hz : F32)
  | cbpfMagDb (hz : F32)
  | baudotReset
  | baudotDecode (code : Byte)
  | baudotDecodeCodes (codes : List Byte)
  | baudotEncodeChar (scalar : U32)
  | baudotEncodeString (text : List U32)
  | baudotEncodeWithPreamble (text : List U32) (preambleCount : U32)
  | varicodeReset
  | varicodeDecodeBit (bit : Byte)
  | varicodeDecodeBits (bits : List Byte)
  | varicodeEncodeChar (scalar : U32)
  | varicodeEncodeString (text : List U32)
  | varicodeEncodeWithPreamble (text : List U32) (idleBits : U32)
  | varicodeBitLength (scalar : U32)
  | fskdemodReset
  | fskdemodProcessSample (sample : F32)
  | fskdemodProcessBlock (samples : List F32)
  | fskdemodTune (markHz : F32)
  | fskdemodSetSquelch (level : F32)
  | fskdemodSetReverse (flag : Byte)
  | fskdemodGetStrength
  | fskdemodGetDetected
  | pskdemodReset
  | pskdemodProcessSample (sample : F32)
  | pskdemodProcessBlock (samples : List F32)
  | pskdemodTune (centerHz : F32)
  | pskdemodSetSquelch (level : F32)
  | pskdemodGetStrength
  | pskdemodGetDetected
  | pskdemodGetTimingError
  deriving DecidableEq, Repr

/-- The unit kind an operation belongs to (R73, R74). -/
def Instr.unit : Instr → UnitKind
  | .oscReset | .oscNextSample | .oscGenerateCount _ | .oscGenerateDuration _ | .oscSetFrequency _
  | .oscSetPhase _ => .osc
  | .goertzelReset | .goertzelProcess _ | .goertzelProcessBlock _ => .goertzel
  | .fskdetReset | .fskdetProcess _ | .fskdetProcessBlock _ => .fskdet
  | .bpfReset | .bpfProcess _ | .bpfProcessBlock _ | .bpfMag _ | .bpfMagDb _ => .bpf
  | .cbpfReset | .cbpfProcess _ | .cbpfProcessBlock _ | .cbpfMag _ | .cbpfMagDb _ => .cbpf
  | .baudotReset | .baudotDecode _ | .baudotDecodeCodes _ | .baudotEncodeChar _
  | .baudotEncodeString _ | .baudotEncodeWithPreamble _ _ => .baudot
  | .varicodeReset | .varicodeDecodeBit _ | .varicodeDecodeBits _ | .varicodeEncodeChar _
  | .varicodeEncodeString _ | .varicodeEncodeWithPreamble _ _ | .varicodeBitLength _ => .varicode
  | .fskdemodReset | .fskdemodProcessSample _ | .fskdemodProcessBlock _ | .fskdemodTune _
  | .fskdemodSetSquelch _ | .fskdemodSetReverse _ | .fskdemodGetStrength
  | .fskdemodGetDetected => .fskdemod
  | .pskdemodReset | .pskdemodProcessSample _ | .pskdemodProcessBlock _ | .pskdemodTune _
  | .pskdemodSetSquelch _ | .pskdemodGetStrength | .pskdemodGetDetected
  | .pskdemodGetTimingError => .pskdemod

end Sys2Proof
end

