-- ==== Sys2Proof/WellFormed.lean ====
section
/-! DEFINITION. Which terms of `Instr` are operations the serialised form can carry. The only
condition R71 puts on an operand beyond its type is the length of a list, 0 to 2³² − 1. -/

namespace Sys2Proof

/-- R71: a `LIST T` has a length that its `U32` count can hold. -/
def listFits {α : Type} (l : List α) : Bool := decide (l.length < 2 ^ 32)

/-- A well-formed operation: every list operand fits its count field. -/
def Instr.wellFormed : Instr → Bool
  | .goertzelProcessBlock samples => listFits samples
  | .fskdetProcessBlock samples => listFits samples
  | .bpfProcessBlock samples => listFits samples
  | .cbpfProcessBlock samples => listFits samples
  | .baudotDecodeCodes codes => listFits codes
  | .baudotEncodeString text => listFits text
  | .baudotEncodeWithPreamble text _ => listFits text
  | .varicodeDecodeBits bits => listFits bits
  | .varicodeEncodeString text => listFits text
  | .varicodeEncodeWithPreamble text _ => listFits text
  | .fskdemodProcessBlock samples => listFits samples
  | .pskdemodProcessBlock samples => listFits samples
  | .oscReset | .oscNextSample | .oscGenerateCount _ | .oscGenerateDuration _ | .oscSetFrequency _
  | .oscSetPhase _ | .goertzelReset | .goertzelProcess _ | .fskdetReset | .fskdetProcess _
  | .bpfReset | .bpfProcess _ | .bpfMag _ | .bpfMagDb _ | .cbpfReset | .cbpfProcess _ | .cbpfMag _
  | .cbpfMagDb _ | .baudotReset | .baudotDecode _ | .baudotEncodeChar _ | .varicodeReset
  | .varicodeDecodeBit _ | .varicodeEncodeChar _ | .varicodeBitLength _ | .fskdemodReset
  | .fskdemodProcessSample _ | .fskdemodTune _ | .fskdemodSetSquelch _ | .fskdemodSetReverse _
  | .fskdemodGetStrength | .fskdemodGetDetected | .pskdemodReset | .pskdemodProcessSample _
  | .pskdemodTune _ | .pskdemodSetSquelch _ | .pskdemodGetStrength | .pskdemodGetDetected
  | .pskdemodGetTimingError => true

end Sys2Proof
end

