-- ==== Sys2Proof/Decode.lean ====
section
/-! DEFINITION. The serialised form of commands (R52, R70 to R74, R76): the decoder, total on any
bytes, and the encoder. Every multi-byte operand is little-endian, operands follow the `cmd` byte
in the order of R74 with no padding, and a list is a `U32` count and then its elements. -/

namespace Sys2Proof

/-- What the decoder finds at the front of a byte sequence. -/
inductive Decoded where
  /-- A complete command, and the bytes that follow it. -/
  | ok (i : Instr) (rest : List Byte)
  /-- A `cmd` byte that R74 does not list (R76). -/
  | reserved (cmd : Byte)
  /-- The bytes end before the command's operands are complete (R76). -/
  | truncated
  deriving DecidableEq, Repr

/-- R73: the unit number, `cmd[7:4]`. -/
def UnitKind.number : UnitKind → BitVec 4
  | .osc => 0x0
  | .goertzel => 0x1
  | .fskdet => 0x2
  | .bpf => 0x3
  | .cbpf => 0x4
  | .baudot => 0x5
  | .varicode => 0x6
  | .fskdemod => 0x7
  | .pskdemod => 0x8

/-- R70: `cmd[7:4]` of a command byte. -/
def unitNumber (cmd : Byte) : BitVec 4 := cmd.extractLsb' 4 4

/-! ### Little-endian operands (R52, R71) -/

/-- The four bytes of a 32-bit pattern, least significant first. -/
def bytesOf32 (w : BitVec 32) : List Byte :=
  [w.extractLsb' 0 8, w.extractLsb' 8 8, w.extractLsb' 16 8, w.extractLsb' 24 8]

/-- The 32-bit pattern of four bytes, least significant first. -/
def word32 (b0 b1 b2 b3 : Byte) : BitVec 32 := b3 ++ b2 ++ b1 ++ b0

/-- Reads one `U8`. -/
def readU8 : List Byte → Option (Byte × List Byte)
  | b :: rest => some (b, rest)
  | [] => none

/-- Reads one `U32`. -/
def readU32 : List Byte → Option (U32 × List Byte)
  | b0 :: b1 :: b2 :: b3 :: rest => some (word32 b0 b1 b2 b3, rest)
  | _ => none

/-- Reads one `F32`. -/
def readF32 (bytes : List Byte) : Option (F32 × List Byte) :=
  (readU32 bytes).map fun p => (⟨p.1⟩, p.2)

/-- Reads `n` elements. -/
def readMany {α : Type} (read : List Byte → Option (α × List Byte)) :
    Nat → List Byte → Option (List α × List Byte)
  | 0, bytes => some ([], bytes)
  | n + 1, bytes =>
    match read bytes with
    | none => none
    | some (a, rest) =>
      match readMany read n rest with
      | none => none
      | some (as, rest') => some (a :: as, rest')

/-- Reads a `LIST T`: the count, then the elements. -/
def readList {α : Type} (read : List Byte → Option (α × List Byte)) (bytes : List Byte) :
    Option (List α × List Byte) :=
  match readU32 bytes with
  | none => none
  | some (count, rest) => readMany read count.toNat rest

/-- A command with no operand. -/
def withNone (i : Instr) (bytes : List Byte) : Decoded := .ok i bytes

/-- A command with one operand. -/
def withOne {α : Type} (read : List Byte → Option (α × List Byte)) (mk : α → Instr)
    (bytes : List Byte) : Decoded :=
  match read bytes with
  | none => .truncated
  | some (a, rest) => .ok (mk a) rest

/-- A command with two operands. -/
def withTwo {α β : Type} (readA : List Byte → Option (α × List Byte))
    (readB : List Byte → Option (β × List Byte)) (mk : α → β → Instr) (bytes : List Byte) :
    Decoded :=
  match readA bytes with
  | none => .truncated
  | some (a, rest) =>
    match readB rest with
    | none => .truncated
    | some (b, rest') => .ok (mk a b) rest'

/-- The operation map of R74: the operands that follow a `cmd` byte. -/
def decodeOperands (cmd : Byte) (bytes : List Byte) : Decoded :=
  match cmd.toNat with
  | 0x00 => withNone .oscReset bytes
  | 0x01 => withNone .oscNextSample bytes
  | 0x02 => withOne readU32 .oscGenerateCount bytes
  | 0x03 => withOne readF32 .oscGenerateDuration bytes
  | 0x04 => withOne readF32 .oscSetFrequency bytes
  | 0x05 => withOne readF32 .oscSetPhase bytes
  | 0x10 => withNone .goertzelReset bytes
  | 0x11 => withOne readF32 .goertzelProcess bytes
  | 0x12 => withOne (readList readF32) .goertzelProcessBlock bytes
  | 0x20 => withNone .fskdetReset bytes
  | 0x21 => withOne readF32 .fskdetProcess bytes
  | 0x22 => withOne (readList readF32) .fskdetProcessBlock bytes
  | 0x30 => withNone .bpfReset bytes
  | 0x31 => withOne readF32 .bpfProcess bytes
  | 0x32 => withOne (readList readF32) .bpfProcessBlock bytes
  | 0x33 => withOne readF32 .bpfMag bytes
  | 0x34 => withOne readF32 .bpfMagDb bytes
  | 0x40 => withNone .cbpfReset bytes
  | 0x41 => withOne readF32 .cbpfProcess bytes
  | 0x42 => withOne (readList readF32) .cbpfProcessBlock bytes
  | 0x43 => withOne readF32 .cbpfMag bytes
  | 0x44 => withOne readF32 .cbpfMagDb bytes
  | 0x50 => withNone .baudotReset bytes
  | 0x51 => withOne readU8 .baudotDecode bytes
  | 0x52 => withOne (readList readU8) .baudotDecodeCodes bytes
  | 0x53 => withOne readU32 .baudotEncodeChar bytes
  | 0x54 => withOne (readList readU32) .baudotEncodeString bytes
  | 0x55 => withTwo (readList readU32) readU32 .baudotEncodeWithPreamble bytes
  | 0x60 => withNone .varicodeReset bytes
  | 0x61 => withOne readU8 .varicodeDecodeBit bytes
  | 0x62 => withOne (readList readU8) .varicodeDecodeBits bytes
  | 0x63 => withOne readU32 .varicodeEncodeChar bytes
  | 0x64 => withOne (readList readU32) .varicodeEncodeString bytes
  | 0x65 => withTwo (readList readU32) readU32 .varicodeEncodeWithPreamble bytes
  | 0x66 => withOne readU32 .varicodeBitLength bytes
  | 0x70 => withNone .fskdemodReset bytes
  | 0x71 => withOne readF32 .fskdemodProcessSample bytes
  | 0x72 => withOne (readList readF32) .fskdemodProcessBlock bytes
  | 0x73 => withOne readF32 .fskdemodTune bytes
  | 0x74 => withOne readF32 .fskdemodSetSquelch bytes
  | 0x75 => withOne readU8 .fskdemodSetReverse bytes
  | 0x76 => withNone .fskdemodGetStrength bytes
  | 0x77 => withNone .fskdemodGetDetected bytes
  | 0x80 => withNone .pskdemodReset bytes
  | 0x81 => withOne readF32 .pskdemodProcessSample bytes
  | 0x82 => withOne (readList readF32) .pskdemodProcessBlock bytes
  | 0x83 => withOne readF32 .pskdemodTune bytes
  | 0x84 => withOne readF32 .pskdemodSetSquelch bytes
  | 0x86 => withNone .pskdemodGetStrength bytes
  | 0x87 => withNone .pskdemodGetDetected bytes
  | 0x88 => withNone .pskdemodGetTimingError bytes
  | _ => .reserved cmd

/-- The decoder (R70 to R76). A byte sequence with no `cmd` byte is a command that ends before it
is complete (log 4). -/
def decode : List Byte → Decoded
  | [] => .truncated
  | cmd :: bytes => decodeOperands cmd bytes

/-! ### The encoder -/

/-- A `LIST T` as R71 serialises it. -/
def listBytes {α : Type} (write : α → List Byte) (l : List α) : List Byte :=
  bytesOf32 (BitVec.ofNat 32 l.length) ++ l.flatMap write

/-- One `U8`. -/
def u8Bytes (b : Byte) : List Byte := [b]

/-- One `F32`. -/
def f32Bytes (x : F32) : List Byte := bytesOf32 x.bits

/-- The serialised form of an operation (R72, R74). -/
def encode : Instr → List Byte
  | .oscReset => [0x00]
  | .oscNextSample => [0x01]
  | .oscGenerateCount count => 0x02 :: bytesOf32 count
  | .oscGenerateDuration seconds => 0x03 :: f32Bytes seconds
  | .oscSetFrequency hz => 0x04 :: f32Bytes hz
  | .oscSetPhase radians => 0x05 :: f32Bytes radians
  | .goertzelReset => [0x10]
  | .goertzelProcess sample => 0x11 :: f32Bytes sample
  | .goertzelProcessBlock samples => 0x12 :: listBytes f32Bytes samples
  | .fskdetReset => [0x20]
  | .fskdetProcess sample => 0x21 :: f32Bytes sample
  | .fskdetProcessBlock samples => 0x22 :: listBytes f32Bytes samples
  | .bpfReset => [0x30]
  | .bpfProcess sample => 0x31 :: f32Bytes sample
  | .bpfProcessBlock samples => 0x32 :: listBytes f32Bytes samples
  | .bpfMag hz => 0x33 :: f32Bytes hz
  | .bpfMagDb hz => 0x34 :: f32Bytes hz
  | .cbpfReset => [0x40]
  | .cbpfProcess sample => 0x41 :: f32Bytes sample
  | .cbpfProcessBlock samples => 0x42 :: listBytes f32Bytes samples
  | .cbpfMag hz => 0x43 :: f32Bytes hz
  | .cbpfMagDb hz => 0x44 :: f32Bytes hz
  | .baudotReset => [0x50]
  | .baudotDecode code => 0x51 :: u8Bytes code
  | .baudotDecodeCodes codes => 0x52 :: listBytes u8Bytes codes
  | .baudotEncodeChar scalar => 0x53 :: bytesOf32 scalar
  | .baudotEncodeString text => 0x54 :: listBytes bytesOf32 text
  | .baudotEncodeWithPreamble text n => 0x55 :: (listBytes bytesOf32 text ++ bytesOf32 n)
  | .varicodeReset => [0x60]
  | .varicodeDecodeBit bit => 0x61 :: u8Bytes bit
  | .varicodeDecodeBits bits => 0x62 :: listBytes u8Bytes bits
  | .varicodeEncodeChar scalar => 0x63 :: bytesOf32 scalar
  | .varicodeEncodeString text => 0x64 :: listBytes bytesOf32 text
  | .varicodeEncodeWithPreamble text n => 0x65 :: (listBytes bytesOf32 text ++ bytesOf32 n)
  | .varicodeBitLength scalar => 0x66 :: bytesOf32 scalar
  | .fskdemodReset => [0x70]
  | .fskdemodProcessSample sample => 0x71 :: f32Bytes sample
  | .fskdemodProcessBlock samples => 0x72 :: listBytes f32Bytes samples
  | .fskdemodTune markHz => 0x73 :: f32Bytes markHz
  | .fskdemodSetSquelch level => 0x74 :: f32Bytes level
  | .fskdemodSetReverse flag => 0x75 :: u8Bytes flag
  | .fskdemodGetStrength => [0x76]
  | .fskdemodGetDetected => [0x77]
  | .pskdemodReset => [0x80]
  | .pskdemodProcessSample sample => 0x81 :: f32Bytes sample
  | .pskdemodProcessBlock samples => 0x82 :: listBytes f32Bytes samples
  | .pskdemodTune centerHz => 0x83 :: f32Bytes centerHz
  | .pskdemodSetSquelch level => 0x84 :: f32Bytes level
  | .pskdemodGetStrength => [0x86]
  | .pskdemodGetDetected => [0x87]
  | .pskdemodGetTimingError => [0x88]

/-! ### The opcode table's words -/

/-- The bytes of an instruction whose low `nbits` bits are `w`, bit 0 the least significant bit of
the first byte, followed by the zero bytes of the operands the table numbers no bits for: eight, as
many as the longest command of zero operands has. -/
def tableBytes (nbits w : Nat) : List Byte :=
  (List.range (nbits / 8)).map (fun k => BitVec.ofNat 8 (w >>> (8 * k))) ++
    List.replicate 8 (0 : Byte)

/-- The instruction the decoder reads from a word of spec/opcode_table.json. -/
def decodeTableWord (nbits w : Nat) : Option Instr :=
  match decode (tableBytes nbits w) with
  | .ok i _ => some i
  | .reserved _ => none
  | .truncated => none

end Sys2Proof
end

