-- ==== Sys2Proof/Config.lean ====
section
/-! DEFINITION. What an implementation fixes: the numerics record `NUM` of R9, the global
parameters of R6, and the free values (constants with no body) that stand where the spec gives a
result no value. The per-instance parameters of R6 are in Sys2Proof/Machine/Units.lean, beside the
registers they configure; the default values of the global parameters are in
Sys2Proof/Machine/Defaults.lean. -/

namespace Sys2Proof

/-- `NUM` of R9: the functions on the carrier `F` of real-valued state. The rules assume nothing of
them except that each depends on its operands alone. -/
structure Num (F : Type) where
  /-- The exact conversion `F32 -> F`. -/
  ofF32 : F32 → F
  /-- The conversion `F -> F32`, rounding to nearest. -/
  toF32 : F → F32
  /-- The real literal `p / q` of a rule, in the carrier. -/
  ratio : Int → Nat → F
  pi : F
  add : F → F → F
  sub : F → F → F
  mul : F → F → F
  div : F → F → F
  neg : F → F
  abs : F → F
  sqrt : F → F
  sin : F → F
  cos : F → F
  /-- `atan2 y x`. -/
  atan2 : F → F → F
  log10 : F → F
  floor : F → Int
  min : F → F → F
  max : F → F → F
  lt : F → F → Bool
  le : F → F → Bool
  /-- Whether the value is a finite number (the preconditions of R302 ask it of parameters). -/
  isFinite : F → Bool
  /-- The representative that `wrap` (R13) yields where its formula, in rounded arithmetic, leaves
  the range [0, 2π) that R102 and R107 state. Never used over exact reals. -/
  phaseOutside : F → F

/-- The global parameters of R6, with the numerics they are stated over. -/
structure Config (F : Type) where
  num : Num F
  /-- `OSC_AMP`. -/
  oscAmp : F
  /-- `G_SCALE`, as a function of the block size N. -/
  gScale : Nat → F
  /-- `POWER_FLOOR`. -/
  powerFloor : F
  /-- `BPF_MARGIN_HZ`. -/
  bpfMarginHz : F
  /-- `BPF_SECTIONS`. -/
  bpfSections : Nat
  /-- The floor of R146 and R153 below which a magnitude is not taken to decibels (D12, I22). -/
  dbFloor : F
  /-- `BAUDOT_LTRS`: 32 entries, `none` for nil and for the shift codes. -/
  baudotLtrs : List (Option Byte)
  /-- `BAUDOT_FIGS`. -/
  baudotFigs : List (Option Byte)
  /-- `VARICODE_TABLE`: for each code point 0 to 127 the code read as a binary number, first bit
  most significant (the column "value of code as binary number" of R84). -/
  varicodeTable : List Nat
  /-- `V_ACC_BITS`: the width of the Varicode decoder's shift register (log 29). -/
  vAccBits : Nat
  /-- `THRESH`. -/
  thresh : F
  /-- `CONF_FULL`. -/
  confFull : F
  /-- `AGC_ATTACK`. -/
  agcAttack : F
  /-- `AGC_DECAY`. -/
  agcDecay : F
  /-- `GAIN_MIN`. -/
  gainMin : F
  /-- `GAIN_MAX`. -/
  gainMax : F
  /-- `AGC_TARGET`. -/
  agcTarget : F
  /-- `STEPS_PER_BIT`. -/
  stepsPerBit : Nat
  /-- `SAMPLE_TICK`. -/
  sampleTick : Nat
  /-- `HIST_LEN`. -/
  histLen : Nat
  /-- `SQUELCH_FACTOR`. -/
  squelchFactor : F
  /-- `NF_INIT`. -/
  nfInit : F
  /-- `NF_DOWN`. -/
  nfDown : F
  /-- `NF_UP`. -/
  nfUp : F
  /-- `NF_MIN`. -/
  nfMin : F
  /-- `NF_MAX`. -/
  nfMax : F
  /-- `HYST_OFF`. -/
  hystOff : F
  /-- `AFC_PERIOD`. -/
  afcPeriod : Nat
  /-- `AFC_OFFSETS`. -/
  afcOffsets : Fin 5 → F
  /-- `AFC_ALPHA`. -/
  afcAlpha : F
  /-- `AFC_RETUNE_HZ`. -/
  afcRetuneHz : F
  /-- `LPF_ALPHA`. -/
  lpfAlpha : F
  /-- `SNR_MIN`. -/
  snrMin : F
  /-- `PSK_POWER_FLOOR`. -/
  pskPowerFloor : F

/-- The operations of binary64 arithmetic whose result may leave the finite numbers. -/
inductive ArithOp where
  | add | sub | mul | div | sqrt | sin | cos | atan2 | log10 | literal
  deriving DecidableEq, Repr

/-- FREE VALUE (log 9). What a binary64 operation yields on these operands where IEEE 754 gives no
finite number: overflow, a division by zero, an operand that is itself no finite number. I20 gives
such a result "any value". -/
opaque Config.freeArith : ArithOp → F64 → F64 → F64

/-- FREE VALUE (log 9). The outcome of comparing two binary64 patterns one of which is no finite
number. -/
opaque Config.freeLess : F64 → F64 → Bool

/-- FREE VALUE (log 9). The same for the comparison `≤`, which on such patterns need not be the
negation of a `<`. -/
opaque Config.freeLessEq : F64 → F64 → Bool

/-- FREE VALUE (log 9). The floor of a binary64 pattern that is no finite number. -/
opaque Config.freeFloor : F64 → Int

/-- FREE VALUE (log 10). The binary32 result of converting a binary64 value that rounds beyond the
largest finite binary32 number, or that is itself no finite number. -/
opaque Config.freeF32 : F64 → F32

/-- FREE VALUE (log 10). The binary64 value of a binary32 pattern that is no finite number. No
accepted operand is one (R303). -/
opaque Config.freeOfF32 : F32 → F64

/-- FREE VALUE (log 11). A phase for an argument of `wrap` at which the rounded formula of R13
leaves [0, 2π); `Sys2Proof.Machine.b64PhaseOutside` keeps it in that range. -/
opaque Config.freePhase : F64 → F64

end Sys2Proof
end

