-- ==== Sys2Proof/Machine/Binary64.lean ====
section
/-! DEFINITION. IEEE 754 binary64 arithmetic with round to nearest even, the default realisation of
the numerics (R9, D2, I19), and the conversions to and from the binary32 of the interface (R8).
Every operation is computed exactly on integers and rounded once. Where IEEE 754 gives no finite
result the result is a free value (I20, log 9, log 10). -/

namespace Sys2Proof

/-- The finite binary number `(−1)^neg × mant × 2^exp`. -/
structure Dyadic where
  neg : Bool
  mant : Nat
  exp : Int
  deriving DecidableEq, Repr

/-- The value as an integer multiple of `2^e`, for an `e` not above the exponent. -/
def Dyadic.scaled (x : Dyadic) (e : Int) : Int :=
  let m : Int := (x.mant <<< (x.exp - e).toNat : Nat)
  if x.neg then -m else m

/-- Rounds the magnitude `(mant + d) × 2^exp` to nearest, ties to even, in a binary format of
precision `prec` and least exponent `emin` (of the last place of the smallest number). `d` is
strictly between 0 and 1 when `sticky`, else 0; a caller that sets `sticky` gives more than
`prec + 1` bits. The result is the exponent and fraction fields as one number. -/
def roundMagnitude (prec : Nat) (emin : Int) (mant : Nat) (exp : Int) (sticky : Bool) : Nat :=
  if mant = 0 then 0
  else
    let q : Int := max (exp + (mant.log2 + 1 : Nat) - (prec : Nat)) emin
    let r : Nat :=
      if q ≤ exp then mant <<< (exp - q).toNat
      else
        let k := (q - exp).toNat
        let hi := mant >>> k
        let lo := mant % 2 ^ k
        let half := 2 ^ (k - 1)
        if half < lo || (lo == half && (sticky || hi % 2 == 1)) then hi + 1 else hi
    (q - emin).toNat * 2 ^ (prec - 1) + r

/-! ### binary64 -/

/-- The exponent field is not all ones. -/
def F64.isFinite (x : F64) : Bool := (x.bits.toNat >>> 52) % 2048 != 2047

/-- The exponent and fraction fields. -/
def F64.magnitude (x : F64) : Nat := x.bits.toNat % 2 ^ 63

/-- The sign bit. -/
def F64.sign (x : F64) : Bool := x.bits.toNat >>> 63 == 1

/-- The value of a finite pattern. -/
def F64.toDyadic (x : F64) : Dyadic :=
  let e := (x.bits.toNat >>> 52) % 2048
  let f := x.bits.toNat % 2 ^ 52
  if e = 0 then ⟨x.sign, f, -1074⟩ else ⟨x.sign, 2 ^ 52 + f, (e : Int) - 1075⟩

/-- The pattern with this sign and these exponent and fraction fields, where they are a finite
number's. -/
def F64.pack (neg : Bool) (mag : Nat) : Option F64 :=
  if mag < 2047 * 2 ^ 52 then some ⟨BitVec.ofNat 64 (if neg then 2 ^ 63 + mag else mag)⟩ else none

/-- Rounds `(−1)^neg × (mant + d) × 2^exp` to binary64. -/
def F64.round (neg : Bool) (mant : Nat) (exp : Int) (sticky : Bool) : Option F64 :=
  F64.pack neg (roundMagnitude 53 (-1074) mant exp sticky)

/-- Rounds the quotient `(−1)^neg × (p / q) × 2^exp`. -/
def F64.roundQuotient (neg : Bool) (p q : Nat) (exp : Int) : Option F64 :=
  if q = 0 then none
  else
    let k := q.log2 + 58
    let n := p <<< k
    F64.round neg (n / q) (exp - (k : Nat)) (n % q != 0)

/-- Applies an operation on finite operands, with the free value where it yields no finite number. -/
def F64.lift (op : ArithOp) (f : Dyadic → Dyadic → Option F64) (a b : F64) : F64 :=
  if a.isFinite && b.isFinite then (f a.toDyadic b.toDyadic).getD (Config.freeArith op a b)
  else Config.freeArith op a b

def addDyadic (x y : Dyadic) : Option F64 :=
  let e := min x.exp y.exp
  let s := x.scaled e + y.scaled e
  if s = 0 then F64.pack (x.neg && y.neg) 0 else F64.round (decide (s < 0)) s.natAbs e false

def mulDyadic (x y : Dyadic) : Option F64 :=
  F64.round (x.neg != y.neg) (x.mant * y.mant) (x.exp + y.exp) false

def divDyadic (x y : Dyadic) : Option F64 :=
  F64.roundQuotient (x.neg != y.neg) x.mant y.mant (x.exp - y.exp)

/-- The integer square root, one bit at a time from bit `k` down: the largest `r' ≥ r` of the form
`r + (a number below 2^k)` with `r'² ≤ m`. -/
def isqrtFrom (m : Nat) : Nat → Nat → Nat
  | 0, r => r
  | k + 1, r =>
    let r' := r + 2 ^ k
    isqrtFrom m k (if r' * r' ≤ m then r' else r)

/-- The integer square root. -/
def isqrt (m : Nat) : Nat := isqrtFrom m (m.log2 / 2 + 1) 0

def sqrtDyadic (x : Dyadic) : Option F64 :=
  if x.mant = 0 then F64.pack x.neg 0
  else if x.neg then none
  else
    let s : Nat := if x.exp % 2 = 0 then 120 else 121
    let m := x.mant <<< s
    let r := isqrt m
    F64.round false r ((x.exp - (s : Nat)) / 2) (r * r != m)

def F64.add (a b : F64) : F64 := F64.lift .add addDyadic a b

/-- The operand with its sign bit inverted. -/
def F64.neg (a : F64) : F64 := ⟨a.bits ^^^ BitVec.ofNat 64 (2 ^ 63)⟩

def F64.sub (a b : F64) : F64 :=
  F64.lift .sub (fun x y => addDyadic x ⟨!y.neg, y.mant, y.exp⟩) a b

def F64.mul (a b : F64) : F64 := F64.lift .mul mulDyadic a b

def F64.div (a b : F64) : F64 := F64.lift .div divDyadic a b

def F64.sqrt (a : F64) : F64 := F64.lift .sqrt (fun x _ => sqrtDyadic x) a a

/-- The operand with its sign bit cleared. -/
def F64.abs (a : F64) : F64 := ⟨BitVec.ofNat 64 a.magnitude⟩

/-- An integer that orders the finite patterns as their values (both zeros at 0). -/
def F64.key (a : F64) : Int := if a.sign then -(a.magnitude : Int) else (a.magnitude : Int)

def F64.lt (a b : F64) : Bool :=
  if a.isFinite && b.isFinite then decide (a.key < b.key) else Config.freeLess a b

def F64.le (a b : F64) : Bool :=
  if a.isFinite && b.isFinite then decide (a.key ≤ b.key) else Config.freeLessEq a b

def F64.min (a b : F64) : F64 := if F64.lt b a then b else a

def F64.max (a b : F64) : F64 := if F64.lt a b then b else a

/-- The largest integer not above the value. -/
def F64.floor (a : F64) : Int :=
  if a.isFinite then
    let x := a.toDyadic
    if 0 ≤ x.exp then x.scaled 0 else (x.scaled x.exp) / ((2 ^ (-x.exp).toNat : Nat) : Int)
  else Config.freeFloor a

/-- The real literal `p / q`, rounded once. -/
def F64.ratio (p : Int) (q : Nat) : F64 :=
  (F64.roundQuotient (decide (p < 0)) p.natAbs q 0).getD
    (Config.freeArith .literal ⟨BitVec.ofInt 64 p⟩ ⟨BitVec.ofNat 64 q⟩)

/-! ### binary32 -/

/-- R10, R303: the pattern is neither a NaN nor an infinity. -/
def F32.isFinite (x : F32) : Bool := (x.bits.toNat >>> 23) % 256 != 255

/-- The value of a finite binary32 pattern. -/
def F32.toDyadic (x : F32) : Dyadic :=
  let n := x.bits.toNat
  let e := (n >>> 23) % 256
  let f := n % 2 ^ 23
  if e = 0 then ⟨n >>> 31 == 1, f, -149⟩ else ⟨n >>> 31 == 1, 2 ^ 23 + f, (e : Int) - 150⟩

/-- The conversion `F32 -> F` of R9, exact on finite patterns. -/
def F64.ofF32 (x : F32) : F64 :=
  if x.isFinite then
    (F64.round x.toDyadic.neg x.toDyadic.mant x.toDyadic.exp false).getD (Config.freeOfF32 x)
  else Config.freeOfF32 x

/-- The conversion `F -> F32` of R9, to nearest, ties to even. -/
def F64.toF32 (a : F64) : F32 :=
  if a.isFinite then
    let x := a.toDyadic
    let mag := roundMagnitude 24 (-149) x.mant x.exp false
    if mag < 255 * 2 ^ 23 then ⟨BitVec.ofNat 32 (if x.neg then 2 ^ 31 + mag else mag)⟩
    else Config.freeF32 a
  else Config.freeF32 a

end Sys2Proof
end

