-- ==== Sys2Proof/Machine/Elementary.lean ====
section
/-! DEFINITION. sin, cos, atan2 and log10 of the default realisation (R9, I19), computed on integers
with 300 or more working bits and rounded once to binary64 (log 12). Fixed-point numbers of `b` bits
stand for their value times `2^b`. -/

namespace Sys2Proof

/-- `floor(π/2 × 2^1500)`. -/
def halfPi1500 : Nat :=
  0x1921FB54442D18469898CC51701B839A252049C1114CF98E804177D4C76273644A29410F31C6809BBDF2A33679A748636605614DBE4BE286E9FC26ADADAA3848BC90B6AECC4BCFD8DE89885D34C6FDAD617FEB96DE80D6FDBDC70D7F6B5133F4B5D3E4822F8963FCC9250CCA3D9C8B67B8400F97142C77E0B31B4906C38ABA734D22C7F51FA499EBF06CABA47B9475B2C38C5E6AC410AA5773DAA520EE12D2CDACE186A9C95793009E2E8D811943042F86520BC8C5C6D9C77C73CEE5

/-- `π` with 300 bits. -/
def pi300 : Nat := halfPi1500 >>> 1199

/-- `floor(log10(2) × 2^300)`. -/
def log10Two300 : Nat :=
  0x4D104D427DE7FBCC47C4ACD605BE48BC13569862A1E8F9A4C52F37935BE631E5943516C0C8C

/-- `floor(log10(e) × 2^300)`. -/
def log10E300 : Nat :=
  0x6F2DEC549B9438CA9AADD557D699EE191F71A30122E4D1011D1F96A27BC7529E3AA1277D0A0

/-- Rounds a fixed-point magnitude of `bits` bits that is known to be no binary64 number or tie. -/
def roundFixed (neg : Bool) (v bits : Nat) : Option F64 := F64.round neg v (-(bits : Int)) true

/-- `t − t·sq/((n+1)(n+2)) + t·sq²/((n+1)(n+2)(n+3)(n+4)) − …`, 300-bit fixed point. -/
def altSeries (sq : Nat) : Nat → Nat → Nat → Int
  | 0, _, _ => 0
  | fuel + 1, n, t =>
    (t : Int) - altSeries sq fuel (n + 2) (((t * sq) >>> 300) / ((n + 1) * (n + 2)))

/-- The sine of a 300-bit argument in [0, π/2]. -/
def sinFixed (r : Nat) : Nat := (altSeries ((r * r) >>> 300) 45 1 r).toNat

/-- The cosine of a 300-bit argument in [0, π/2]. -/
def cosFixed (r : Nat) : Nat := (altSeries ((r * r) >>> 300) 45 0 (2 ^ 300)).toNat

/-- `mant × 2^exp = k × π/2 + r`: the quadrant `k` modulo 4 and the 300-bit remainder `r`. -/
def quadrant (x : Dyadic) : Nat × Nat :=
  let a := x.mant <<< (x.exp + 1500).toNat
  ((a / halfPi1500) % 4, (a % halfPi1500) >>> 1200)

/-- An argument below `2^-27` in magnitude. -/
def Dyadic.isTiny (x : Dyadic) : Bool := decide (x.exp + (x.mant.log2 + 1 : Nat) ≤ -27)

def sinDyadic (x : Dyadic) : Option F64 :=
  if x.mant = 0 || x.isTiny then F64.round x.neg x.mant x.exp false
  else
    let p := quadrant x
    match p.1 with
    | 0 => roundFixed x.neg (sinFixed p.2) 300
    | 1 => roundFixed x.neg (cosFixed p.2) 300
    | 2 => roundFixed (!x.neg) (sinFixed p.2) 300
    | _ => roundFixed (!x.neg) (cosFixed p.2) 300

def cosDyadic (x : Dyadic) : Option F64 :=
  if x.mant = 0 || x.isTiny then F64.round false 1 0 false
  else
    let p := quadrant x
    match p.1 with
    | 0 => roundFixed false (cosFixed p.2) 300
    | 1 => roundFixed true (sinFixed p.2) 300
    | 2 => roundFixed true (cosFixed p.2) 300
    | _ => roundFixed false (sinFixed p.2) 300

def F64.sin (a : F64) : F64 := F64.lift .sin (fun x _ => sinDyadic x) a a

def F64.cos (a : F64) : F64 := F64.lift .cos (fun x _ => cosDyadic x) a a

/-- Euler's series of the arctangent: `term + term·(2n+2)/(2n+3)·y + …`, with `y` of 300 bits. -/
def eulerSeries (y : Nat) : Nat → Nat → Nat → Nat
  | 0, _, _ => 0
  | fuel + 1, n, term =>
    if term = 0 then 0
    else term + eulerSeries y fuel (n + 1) (((term * (2 * n + 2)) / (2 * n + 3) * y) >>> 300)

/-- `atan(a / b)` with `bits` bits, for `0 < a ≤ b`. -/
def atanFixed (a b bits : Nat) : Nat :=
  let d := a * a + b * b
  eulerSeries (((a * a) <<< 300) / d) 320 0 (((a * b) <<< bits) / d)

/-- `atan(a / b)` for `0 < a ≤ b`, rounded: with as many further bits as the quotient is small, and
for a quotient below `2^-150` the quotient itself less one unit in the last place kept. -/
def atanRounded (neg : Bool) (a b : Nat) : Option F64 :=
  let k := b.log2 - a.log2
  let bits := 300 + k
  if 150 < k then roundFixed neg ((a <<< bits) / b - 1) bits
  else roundFixed neg (atanFixed a b bits) bits

/-- `atan2(y, x)` (R257: 0 when both are 0; the sign of a zero as IEEE 754 has it, log 13). -/
def atan2Dyadic (y x : Dyadic) : Option F64 :=
  if y.mant = 0 && x.mant = 0 then F64.pack false 0
  else if y.mant = 0 then (if x.neg then roundFixed y.neg pi300 300 else F64.pack y.neg 0)
  else if x.mant = 0 then roundFixed y.neg pi300 301
  else
    let e := min y.exp x.exp
    let a := (y.scaled e).natAbs
    let b := (x.scaled e).natAbs
    if x.neg then
      if a ≤ b then roundFixed y.neg (pi300 - atanFixed a b 300) 300
      else roundFixed y.neg (pi300 / 2 + atanFixed b a 300) 300
    else
      if a ≤ b then atanRounded y.neg a b
      else roundFixed y.neg (pi300 / 2 - atanFixed b a 300) 300

def F64.atan2 (y x : F64) : F64 := F64.lift .atan2 atan2Dyadic y x

/-- The exponent `k ≤ fuel` with `m × 2^e = 10^k`, if there is one. -/
def powerOfTen (m : Nat) (e : Int) : Nat → Option Nat
  | 0 => if m <<< e.toNat = 1 <<< (-e).toNat then some 0 else none
  | k + 1 =>
    if m <<< e.toNat = 10 ^ (k + 1) <<< (-e).toNat then some (k + 1) else powerOfTen m e k

/-- `t + t·sq·n/(n+2) + …`: the terms `u^n / n` for odd `n`, with `u` signed of 300 bits. -/
def atanhSeries (sq : Nat) : Nat → Nat → Int → Int
  | 0, _, _ => 0
  | fuel + 1, n, p => p / (n : Int) + atanhSeries sq fuel (n + 2) ((p * (sq : Int)) / ((2 ^ 300 : Nat) : Int))

/-- `log10` of a positive number: `ex × log10(2) + ln(f) × log10(e)` with `f = m / 2^s` in
[3/4, 3/2) and `ln(f) = 2 atanh((f − 1) / (f + 1))`. -/
def log10Dyadic (x : Dyadic) : Option F64 :=
  if x.neg || x.mant = 0 then none
  else
    match powerOfTen x.mant x.exp 22 with
    | some k => F64.roundQuotient false k 1 0
    | none =>
      let l := x.mant.log2
      let s := if 3 * 2 ^ l ≤ 2 * x.mant then l + 1 else l
      let one : Int := ((2 ^ s : Nat) : Int)
      let m : Int := (x.mant : Nat)
      let u : Int := ((m - one) * ((2 ^ 300 : Nat) : Int)) / (m + one)
      let ln : Int := 2 * atanhSeries ((u * u).toNat >>> 300) 120 1 u
      let v : Int := (x.exp + (s : Nat)) * (log10Two300 : Nat) +
        ln * (log10E300 : Nat) / ((2 ^ 300 : Nat) : Int)
      roundFixed (decide (v < 0)) v.natAbs 300

def F64.log10 (a : F64) : F64 := F64.lift .log10 (fun x _ => log10Dyadic x) a a

end Sys2Proof
end

