-- ==== Sys2Proof/Machine/Tables.lean ====
section
/-! DEFINITION. The code tables of R80 and R84, transcribed from spec/30_encoding.md. The spec marks
their content as general knowledge (G1, G2, log 19). -/

namespace Sys2Proof.Machine

/-- `BAUDOT_LTRS` (R80), codes 0 to 31. -/
def baudotLetters : List (Option Byte) :=
  [none, some 0x45, some 0x0A, some 0x41, some 0x20, some 0x53, some 0x49, some 0x55,
   some 0x0D, some 0x44, some 0x52, some 0x4A, some 0x4E, some 0x46, some 0x43, some 0x4B,
   some 0x54, some 0x5A, some 0x4C, some 0x57, some 0x48, some 0x59, some 0x50, some 0x51,
   some 0x4F, some 0x42, some 0x47, none, some 0x4D, some 0x58, some 0x56, none]

/-- `BAUDOT_FIGS` (R80), codes 0 to 31, the US-TTY figures. -/
def baudotFigures : List (Option Byte) :=
  [none, some 0x33, some 0x0A, some 0x2D, some 0x20, some 0x07, some 0x38, some 0x37,
   some 0x0D, some 0x24, some 0x34, some 0x27, some 0x2C, some 0x21, some 0x3A, some 0x28,
   some 0x35, some 0x22, some 0x29, some 0x32, some 0x23, some 0x36, some 0x30, some 0x31,
   some 0x39, some 0x3F, some 0x26, none, some 0x2E, some 0x2F, some 0x3B, none]

/-- `VARICODE_TABLE` (R84), code points 0 to 63: the code as a binary number. -/
def varicodeLow : List Nat :=
  [683, 731, 749, 887, 747, 863, 751, 765, 767, 239, 29, 879, 733, 31, 885, 939,
   759, 757, 941, 943, 859, 875, 877, 855, 891, 893, 951, 853, 861, 955, 763, 895,
   1, 511, 351, 501, 475, 725, 699, 383, 251, 247, 367, 479, 117, 53, 87, 431,
   183, 189, 237, 255, 375, 347, 363, 429, 427, 439, 245, 445, 493, 85, 471, 687]

/-- `VARICODE_TABLE` (R84), code points 64 to 127. -/
def varicodeHigh : List Nat :=
  [701, 125, 235, 173, 181, 119, 219, 253, 341, 127, 509, 381, 215, 187, 221, 171,
   213, 477, 175, 111, 109, 343, 437, 349, 373, 379, 685, 503, 495, 507, 703, 365,
   735, 11, 95, 47, 45, 3, 61, 91, 43, 13, 491, 191, 27, 59, 15, 7,
   63, 447, 21, 23, 5, 55, 123, 107, 223, 93, 469, 695, 443, 693, 727, 949]

end Sys2Proof.Machine
end

