-- ==== Sys2Proof/Machine/Defaults.lean ====
section
/-! DEFINITION. The default values of the global parameters (R6, R7), stated once for every
numerics, and the machine's configuration: those values in the default realisation of R9. -/

namespace Sys2Proof.Machine

/-- The parameters of R6 at the values the spec gives, over the numerics `N`. -/
def defaultConfig {F : Type} (N : Num F) : Config F where
  num := N
  oscAmp := N.ratio 1 1
  gScale := fun n => N.div (N.ratio 4 1) (N.ratio ((n * n : Nat) : Int) 1)
  powerFloor := N.ratio 1 10000000000
  bpfMarginHz := N.ratio 50 1
  bpfSections := 2
  dbFloor := N.ratio 1 100000000000000000000
  baudotLtrs := baudotLetters
  baudotFigs := baudotFigures
  varicodeTable := varicodeLow ++ varicodeHigh
  vAccBits := 12
  thresh := N.ratio 2 10
  confFull := N.ratio 5 10
  agcAttack := N.ratio 1 100
  agcDecay := N.ratio 1 10000
  gainMin := N.ratio 1 10
  gainMax := N.ratio 10 1
  agcTarget := N.ratio 5 10
  stepsPerBit := 4
  sampleTick := 3
  histLen := 8
  squelchFactor := N.ratio 3 1
  nfInit := N.ratio 1 100
  nfDown := N.ratio 1 10
  nfUp := N.ratio 1 10000
  nfMin := N.ratio 1 1000
  nfMax := N.ratio 25 100
  hystOff := N.ratio 5 10
  afcPeriod := 8
  afcOffsets := fun j => N.ratio (25 * ((j.val : Nat) : Int) - 50) 1
  afcAlpha := N.ratio 1 10
  afcRetuneHz := N.ratio 5 1
  lpfAlpha := N.ratio 1 10
  snrMin := N.ratio 1 10
  pskPowerFloor := N.ratio 1 1000000

/-- The binary64 number nearest to π. -/
def b64Pi : F64 := ⟨0x400921FB54442D18⟩

/-- The phase `wrap` yields in binary64 where its formula leaves [0, 2π): a free value kept in that
range (log 11). -/
def b64PhaseOutside (p : F64) : F64 :=
  let v := Config.freePhase p
  let twoPi := F64.mul (F64.ratio 2 1) b64Pi
  if v.isFinite && decide (0 ≤ v.key) && decide (v.key < twoPi.key) then v else F64.ratio 0 1

/-- The default realisation of `NUM` (R9): IEEE 754 binary64. -/
def b64 : Num F64 where
  ofF32 := F64.ofF32
  toF32 := F64.toF32
  ratio := F64.ratio
  pi := b64Pi
  add := F64.add
  sub := F64.sub
  mul := F64.mul
  div := F64.div
  neg := F64.neg
  abs := F64.abs
  sqrt := F64.sqrt
  sin := F64.sin
  cos := F64.cos
  atan2 := F64.atan2
  log10 := F64.log10
  floor := F64.floor
  min := F64.min
  max := F64.max
  lt := F64.lt
  le := F64.le
  isFinite := F64.isFinite
  phaseOutside := b64PhaseOutside

/-- The configuration of the machine. -/
def machineConfig : Config F64 := defaultConfig b64

end Sys2Proof.Machine
end

