-- ==== Sys2Proof/Machine/Numerics.lean ====
section
/-! DEFINITION. The arithmetic primitives of R13 over an arbitrary numerics record: integer literals,
`2π`, `wrap`, `clamp`. -/

namespace Sys2Proof

/-- An integer in the carrier. -/
def Num.int {F : Type} (N : Num F) (z : Int) : F := N.ratio z 1

/-- A count in the carrier. -/
def Num.nat {F : Type} (N : Num F) (n : Nat) : F := N.int (n : Int)

def Num.zero {F : Type} (N : Num F) : F := N.int 0

def Num.one {F : Type} (N : Num F) : F := N.int 1

/-- `2π`. -/
def Num.twoPi {F : Type} (N : Num F) : F := N.mul (N.int 2) N.pi

/-- `v²` as the product `v × v` (log 16). -/
def Num.square {F : Type} (N : Num F) (v : F) : F := N.mul v v

/-- `clamp(v, lo, hi)` of R13. -/
def Num.clamp {F : Type} (N : Num F) (v lo hi : F) : F := N.min hi (N.max lo v)

/-- `wrap(p)` of R13: `p − 2π × floor(p / (2π))`, and 0 where the numerics round that up to 2π. In
rounded arithmetic the formula can leave the range [0, 2π) that R102 and R107 state; there the
numerics supply a phase of the range (log 11). -/
def Num.wrap {F : Type} (N : Num F) (p : F) : F :=
  let r := N.sub p (N.mul N.twoPi (N.int (N.floor (N.div p N.twoPi))))
  if N.lt r N.zero then N.phaseOutside p
  else if N.lt r N.twoPi then r
  else if N.le r N.twoPi then N.zero
  else N.phaseOutside p

end Sys2Proof
end

