-- ==== Sys2Proof/Machine/Units.lean ====
section
/-! DEFINITION. The nine units as plain data: the per-instance parameters of R6 and the registers of
spec/10_state.md, over any carrier `F` of real-valued state. The parameters are latched at
instantiation and no operation writes them (R23, R42, log 18). Derived constants are not stored: they
are functions of the parameters and the tuned frequency (R42, log 17). -/

namespace Sys2Proof.Machine

/-! ### Per-instance parameters (R6) -/

/-- OSC: `FS`, `OSC.f0`. -/
structure OscParams (F : Type) where
  fs : F
  f0 : F
  deriving DecidableEq, Repr

/-- GOERTZEL: `FS`, `G.f`, `G.N`. -/
structure GoertzelParams (F : Type) where
  fs : F
  f : F
  n : Nat
  deriving DecidableEq, Repr

/-- FSKDET: the mark and space frequencies, one `N` and one `FS` (R26). -/
structure FskdetParams (F : Type) where
  fs : F
  mark : F
  space : F
  n : Nat
  deriving DecidableEq, Repr

/-- BPF: `FS`, `BPF.low`, `BPF.high`. -/
structure BpfParams (F : Type) where
  fs : F
  low : F
  high : F
  deriving DecidableEq, Repr

/-- CBPF: the band of a section and `CBPF.n`. -/
structure CbpfParams (F : Type) where
  band : BpfParams F
  n : Nat
  deriving DecidableEq, Repr

/-- FSKDEMOD: `FS`, `FSK.baud`, `FSK.mark`, `FSK.shift`, `FSK.afcEnabled`, `FSK.minConfidence`. -/
structure FskParams (F : Type) where
  fs : F
  baud : F
  mark : F
  shift : F
  afcEnabled : Bool
  minConfidence : F
  deriving DecidableEq, Repr

/-- `PSK.order`. -/
inductive PskOrder where
  | bpsk | qpsk
  deriving DecidableEq, Repr

/-- PSKDEMOD: `FS`, `PSK.baud`, `PSK.center`, `PSK.order`. -/
structure PskParams (F : Type) where
  fs : F
  baud : F
  center : F
  order : PskOrder
  deriving DecidableEq, Repr

/-- What instantiation is given: the unit kind and its parameters (R330). -/
inductive Params (F : Type) where
  | osc (p : OscParams F)
  | goertzel (p : GoertzelParams F)
  | fskdet (p : FskdetParams F)
  | bpf (p : BpfParams F)
  | cbpf (p : CbpfParams F)
  | baudot
  | varicode
  | fskdemod (p : FskParams F)
  | pskdemod (p : PskParams F)
  deriving DecidableEq, Repr

/-! ### Registers (spec/10_state.md) -/

/-- OSC (R24). -/
structure Osc (F : Type) where
  par : OscParams F
  phase : F
  freq : F
  deriving DecidableEq, Repr

/-- The accumulator of a Goertzel correlator (R25). -/
structure GoertzelAcc (F : Type) where
  s1 : F
  s2 : F
  n : Nat
  deriving DecidableEq, Repr

/-- GOERTZEL (R25). -/
structure Goertzel (F : Type) where
  par : GoertzelParams F
  acc : GoertzelAcc F
  deriving DecidableEq, Repr

/-- FSKDET: the mark correlator `m` and the space correlator `s` (R26). -/
structure Fskdet (F : Type) where
  par : FskdetParams F
  m : GoertzelAcc F
  s : GoertzelAcc F
  deriving DecidableEq, Repr

/-- The filter memory of one bandpass section (R27). -/
structure BpfMem (F : Type) where
  x1 : F
  x2 : F
  y1 : F
  y2 : F
  deriving DecidableEq, Repr

/-- BPF (R27). -/
structure Bpf (F : Type) where
  par : BpfParams F
  mem : BpfMem F
  deriving DecidableEq, Repr

/-- CBPF: the sections `sec[0 .. n−1]` (R28). -/
structure Cbpf (F : Type) where
  par : CbpfParams F
  sec : List (BpfMem F)
  deriving DecidableEq, Repr

/-- BAUDOT: the shift flag, false for Letters and true for Figures (R29). -/
structure Baudot where
  figs : Bool
  deriving DecidableEq, Repr

/-- VARICODE: the shift register, a number of `V_ACC_BITS` bits (a parameter of R6, log 29), and the
overflow flag (R30). -/
structure Varicode where
  acc : Nat
  ovf : Bool
  deriving DecidableEq, Repr

/-- The states of FSKDEMOD's bit-timing automaton (R36). -/
inductive FskPhase where
  | waitingForStart | inStartBit | receivingData | inStopBits
  deriving DecidableEq, Repr

/-- FSKDEMOD (R23, R32 to R36). -/
structure FskDemod (F : Type) where
  par : FskParams F
  /-- Settings (R23). -/
  markTuned : F
  squelchManual : F
  reverse : Bool
  /-- Front end (R32). `bpf` holds the memories of the front-end filter's sections. -/
  bpf : List (BpfMem F)
  gain : F
  ring : List F
  wpos : Nat
  sampleCount : Nat
  /-- Signal quality (R33). `hist` has its newest entry last. -/
  corr : F
  hist : List F
  strength : F
  noiseFloor : F
  detected : Bool
  /-- AFC (R34). -/
  afcCount : Nat
  afcSmooth : F
  afcOffset : F
  /-- Bit-timing automaton (R36). -/
  phase : FskPhase
  tick : Nat
  bitIndex : Nat
  code : BitVec 5
  minConf : F
  dec : Baudot
  deriving DecidableEq, Repr

/-- PSKDEMOD (R23, R38 to R40). -/
structure PskDemod (F : Type) where
  par : PskParams F
  /-- Settings (R23). -/
  centerTuned : F
  squelch : F
  /-- Local oscillator and filters (R38). -/
  loPhase : F
  iF : F
  qF : F
  n : Nat
  /-- Gates (R39). -/
  onI : F
  onQ : F
  earlyI : F
  earlyQ : F
  lateI : F
  lateQ : F
  sumSq : F
  /-- Decision state (R40). -/
  prevI : F
  prevQ : F
  detected : Bool
  strength : F
  timingError : F
  dec : Varicode
  deriving DecidableEq, Repr

/-- An instance of one of the nine unit kinds (R3). -/
inductive Instance (F : Type) where
  | osc (u : Osc F)
  | goertzel (u : Goertzel F)
  | fskdet (u : Fskdet F)
  | bpf (u : Bpf F)
  | cbpf (u : Cbpf F)
  | baudot (u : Baudot)
  | varicode (u : Varicode)
  | fskdemod (u : FskDemod F)
  | pskdemod (u : PskDemod F)
  deriving DecidableEq, Repr

/-- The unit kind of an instance. -/
def Instance.kind {F : Type} : Instance F → UnitKind
  | .osc _ => .osc
  | .goertzel _ => .goertzel
  | .fskdet _ => .fskdet
  | .bpf _ => .bpf
  | .cbpf _ => .cbpf
  | .baudot _ => .baudot
  | .varicode _ => .varicode
  | .fskdemod _ => .fskdemod
  | .pskdemod _ => .pskdemod

end Sys2Proof.Machine
end

