-- ==== Sys2Proof/Machine/Derived.lean ====
section
/-! DEFINITION. The derived constants of R25, R27, R31 and R37, as functions of the parameters and,
for FSKDEMOD, of the tuned frequency (R42, log 17). -/

namespace Sys2Proof.Machine

variable {F : Type}

/-- `2 × cos(2π × f / FS)` (R120). -/
def goertzelCoef (C : Config F) (fs f : F) : F :=
  let N := C.num
  N.mul (N.int 2) (N.cos (N.div (N.mul N.twoPi f) fs))

/-- The coefficients of a bandpass section (R140). -/
structure BpfCoef (F : Type) where
  b0 : F
  b1 : F
  b2 : F
  a1 : F
  a2 : F
  deriving DecidableEq, Repr

/-- R140. -/
def bpfCoef (C : Config F) (fs low high : F) : BpfCoef F :=
  let N := C.num
  let f0 := N.div (N.add low high) (N.int 2)
  let bw := N.sub high low
  let q := N.div f0 bw
  let w0 := N.div (N.mul N.twoPi f0) fs
  let al := N.div (N.sin w0) (N.mul (N.int 2) q)
  let a0 := N.add N.one al
  { b0 := N.div al a0
    b1 := N.zero
    b2 := N.div (N.neg al) a0
    a1 := N.div (N.mul (N.int (-2)) (N.cos w0)) a0
    a2 := N.div (N.sub N.one al) a0 }

/-- The coefficients of a BPF instance. -/
def BpfParams.coef (C : Config F) (p : BpfParams F) : BpfCoef F := bpfCoef C p.fs p.low p.high

/-- R147: the band derived from a mark and a space frequency and a margin. -/
def bandAround (C : Config F) (fm fsp : F) : F × F :=
  let N := C.num
  (N.sub (N.min fm fsp) C.bpfMarginHz, N.add (N.max fm fsp) C.bpfMarginHz)

/-! ### FSKDEMOD (R31, R200, R201) -/

/-- `spb = floor(FS / FSK.baud)`. -/
def FskParams.spb (C : Config F) (p : FskParams F) : Nat :=
  (C.num.floor (C.num.div p.fs p.baud)).toNat

/-- `STEP = spb div 4`. -/
def FskParams.step (C : Config F) (p : FskParams F) : Nat := p.spb C / C.stepsPerBit

/-- `W = spb div 2`. -/
def FskParams.window (C : Config F) (p : FskParams F) : Nat := p.spb C / 2

/-- `fm = markTuned + afcOffset`. -/
def FskDemod.fm (C : Config F) (u : FskDemod F) : F := C.num.add u.markTuned u.afcOffset

/-- `fsp = fm + FSK.shift`. -/
def FskDemod.fsp (C : Config F) (u : FskDemod F) : F := C.num.add (u.fm C) u.par.shift

/-- `cM`. -/
def FskDemod.cM (C : Config F) (u : FskDemod F) : F := goertzelCoef C u.par.fs (u.fm C)

/-- `cS`. -/
def FskDemod.cS (C : Config F) (u : FskDemod F) : F := goertzelCoef C u.par.fs (u.fsp C)

/-- `cMo[j]`. -/
def FskDemod.cMo (C : Config F) (u : FskDemod F) (j : Fin 5) : F :=
  goertzelCoef C u.par.fs (C.num.add (u.fm C) (C.afcOffsets j))

/-- `cSo[j]`. -/
def FskDemod.cSo (C : Config F) (u : FskDemod F) (j : Fin 5) : F :=
  goertzelCoef C u.par.fs (C.num.add (u.fsp C) (C.afcOffsets j))

/-- The front-end filter's coefficients at the effective frequencies. -/
def FskDemod.coef (C : Config F) (u : FskDemod F) : BpfCoef F :=
  let band := bandAround C (u.fm C) (u.fsp C)
  bpfCoef C u.par.fs band.1 band.2

/-- `valid(f)` of R201: with `fm = f`, `0 < low` and `high < FS/2`. -/
def FskParams.validMark (C : Config F) (p : FskParams F) (f : F) : Bool :=
  let band := bandAround C f (C.num.add f p.shift)
  C.num.lt C.num.zero band.1 && C.num.lt band.2 (C.num.div p.fs (C.num.int 2))

/-! ### PSKDEMOD (R37, R250) -/

/-- `S = floor(FS / PSK.baud)`. -/
def PskParams.symbolLength (C : Config F) (p : PskParams F) : Nat :=
  (C.num.floor (C.num.div p.fs p.baud)).toNat

/-- `H = S div 2`. -/
def PskParams.earlyLength (C : Config F) (p : PskParams F) : Nat := p.symbolLength C / 2

/-- The precondition of R250 and R264 on a centre frequency: `0 < f < FS/2`. -/
def PskParams.validCenter (C : Config F) (p : PskParams F) (f : F) : Bool :=
  C.num.lt C.num.zero f && C.num.lt f (C.num.div p.fs (C.num.int 2))

end Sys2Proof.Machine
end

