-- ==== Sys2Proof/Machine/Init.lean ====
section
/-! DEFINITION. Instantiation (R330): the preconditions of R302 and the init values of R332. -/

namespace Sys2Proof.Machine

variable {F : Type}

/-- `0 < low < high < FS/2`, all finite (R140, R302). -/
def BpfParams.valid (C : Config F) (p : BpfParams F) : Bool :=
  C.num.isFinite p.fs && C.num.isFinite p.low && C.num.isFinite p.high &&
    C.num.lt C.num.zero p.fs && C.num.lt C.num.zero p.low && C.num.lt p.low p.high &&
    C.num.lt p.high (C.num.div p.fs (C.num.int 2))

/-- R200, R302. -/
def FskParams.valid (C : Config F) (p : FskParams F) : Bool :=
  C.num.isFinite p.fs && C.num.isFinite p.baud && C.num.isFinite p.mark &&
    C.num.isFinite p.shift && C.num.isFinite p.minConfidence &&
    C.num.lt C.num.zero p.fs && C.num.lt C.num.zero p.baud && decide (4 ≤ p.spb C) &&
    C.num.le C.num.zero p.minConfidence && C.num.le p.minConfidence C.num.one &&
    p.validMark C p.mark

/-- R250, R302. -/
def PskParams.valid (C : Config F) (p : PskParams F) : Bool :=
  C.num.isFinite p.fs && C.num.isFinite p.baud && C.num.isFinite p.center &&
    C.num.lt C.num.zero p.fs && C.num.lt C.num.zero p.baud &&
    decide (2 ≤ p.symbolLength C) && p.validCenter C p.center

/-- R302: the preconditions of each unit. -/
def Params.valid (C : Config F) : Params F → Bool
  | .osc p => C.num.isFinite p.fs && C.num.isFinite p.f0 && C.num.lt C.num.zero p.fs
  | .goertzel p =>
    C.num.isFinite p.fs && C.num.isFinite p.f && C.num.lt C.num.zero p.fs && decide (1 ≤ p.n)
  | .fskdet p =>
    C.num.isFinite p.fs && C.num.isFinite p.mark && C.num.isFinite p.space &&
      C.num.lt C.num.zero p.fs && decide (1 ≤ p.n)
  | .bpf p => p.valid C
  | .cbpf p => p.band.valid C && decide (1 ≤ p.n)
  | .baudot => true
  | .varicode => true
  | .fskdemod p => p.valid C
  | .pskdemod p => p.valid C

/-! ### The init column of R332 -/

/-- An empty Goertzel accumulator. -/
def emptyAcc (C : Config F) : GoertzelAcc F := ⟨C.num.zero, C.num.zero, 0⟩

/-- A cleared filter memory. -/
def clearMem (C : Config F) : BpfMem F := ⟨C.num.zero, C.num.zero, C.num.zero, C.num.zero⟩

/-- The memories of `n` cleared sections. -/
def clearSections (C : Config F) (n : Nat) : List (BpfMem F) := List.replicate n (clearMem C)

def initOsc (C : Config F) (p : OscParams F) : Osc F := ⟨p, C.num.zero, p.f0⟩

def initGoertzel (C : Config F) (p : GoertzelParams F) : Goertzel F := ⟨p, emptyAcc C⟩

def initFskdet (C : Config F) (p : FskdetParams F) : Fskdet F := ⟨p, emptyAcc C, emptyAcc C⟩

def initBpf (C : Config F) (p : BpfParams F) : Bpf F := ⟨p, clearMem C⟩

def initCbpf (C : Config F) (p : CbpfParams F) : Cbpf F := ⟨p, clearSections C p.n⟩

/-- R29: Letters. -/
def initBaudot : Baudot := ⟨false⟩

/-- R30: no bit held. -/
def initVaricode : Varicode := ⟨0, false⟩

/-- FSKDEMOD after instantiation (R332). -/
def initFsk (C : Config F) (p : FskParams F) : FskDemod F :=
  let z := C.num.zero
  { par := p
    markTuned := p.mark
    squelchManual := z
    reverse := false
    bpf := clearSections C C.bpfSections
    gain := C.num.one
    ring := List.replicate (p.window C) z
    wpos := 0
    sampleCount := 0
    corr := z
    hist := List.replicate C.histLen z
    strength := z
    noiseFloor := C.nfInit
    detected := false
    afcCount := 0
    afcSmooth := z
    afcOffset := z
    phase := .waitingForStart
    tick := 0
    bitIndex := 0
    code := 0
    minConf := C.num.one
    dec := initBaudot }

/-- PSKDEMOD after instantiation (R332). -/
def initPsk (C : Config F) (p : PskParams F) : PskDemod F :=
  let z := C.num.zero
  { par := p
    centerTuned := p.center
    squelch := z
    loPhase := z
    iF := z
    qF := z
    n := 0
    onI := z
    onQ := z
    earlyI := z
    earlyQ := z
    lateI := z
    lateQ := z
    sumSq := z
    prevI := z
    prevQ := z
    detected := false
    strength := z
    timingError := z
    dec := initVaricode }

/-- R330 steps 2 to 5: a fresh instance. -/
def Params.fresh (C : Config F) : Params F → Instance F
  | .osc p => .osc (initOsc C p)
  | .goertzel p => .goertzel (initGoertzel C p)
  | .fskdet p => .fskdet (initFskdet C p)
  | .bpf p => .bpf (initBpf C p)
  | .cbpf p => .cbpf (initCbpf C p)
  | .baudot => .baudot initBaudot
  | .varicode => .varicode initVaricode
  | .fskdemod p => .fskdemod (initFsk C p)
  | .pskdemod p => .pskdemod (initPsk C p)

end Sys2Proof.Machine
end

