-- ==== Sys2Proof/Machine/Presets.lean ====
section
/-! DEFINITION. Parameter values: the named presets of R286 and the parameters of the instances that
exist in `State.reset` (log 2). A preset is a set of parameter values, not an operation and not
state (R286). -/

namespace Sys2Proof.Machine

variable {F : Type}

/-- The nominal sample rate of R6. -/
def nominalRate (N : Num F) : F := N.int 48000

/-- An RTTY preset with a baud rate and a shift; mark 2125 Hz, AFC on and minimum confidence 0.3 as
R6 and R286 have them. -/
def rttyPreset (N : Num F) (fs baud shift : F) : FskParams F :=
  ⟨fs, baud, N.int 2125, shift, true, N.ratio 3 10⟩

/-- `standard`: 45.45 baud, 170 Hz shift. -/
def rttyStandard (N : Num F) (fs : F) : FskParams F := rttyPreset N fs (N.ratio 4545 100) (N.int 170)

def rttyBaud50 (N : Num F) (fs : F) : FskParams F := rttyPreset N fs (N.int 50) (N.int 170)

def rttyBaud75 (N : Num F) (fs : F) : FskParams F := rttyPreset N fs (N.int 75) (N.int 170)

def rttyBaud100 (N : Num F) (fs : F) : FskParams F := rttyPreset N fs (N.int 100) (N.int 170)

def rttyWide425 (N : Num F) (fs : F) : FskParams F := rttyPreset N fs (N.ratio 4545 100) (N.int 425)

def rttyWide850 (N : Num F) (fs : F) : FskParams F := rttyPreset N fs (N.ratio 4545 100) (N.int 850)

def psk31 (N : Num F) (fs center : F) : PskParams F := ⟨fs, N.ratio 3125 100, center, .bpsk⟩

def bpsk63 (N : Num F) (fs center : F) : PskParams F := ⟨fs, N.ratio 625 10, center, .bpsk⟩

def qpsk31 (N : Num F) (fs center : F) : PskParams F := ⟨fs, N.ratio 3125 100, center, .qpsk⟩

def qpsk63 (N : Num F) (fs center : F) : PskParams F := ⟨fs, N.ratio 625 10, center, .qpsk⟩

/-- The parameters `State.reset` gives the instance of each unit kind (log 2): the nominal sample
rate, the `standard` RTTY tones with the window and the front-end band they imply (R125, R147), the
`psk31` preset at the 1000 Hz of the spec's vectors. -/
def resetParams (N : Num F) : UnitKind → Params F
  | .osc => .osc ⟨nominalRate N, N.int 1000⟩
  | .goertzel => .goertzel ⟨nominalRate N, N.int 2125, 528⟩
  | .fskdet => .fskdet ⟨nominalRate N, N.int 2125, N.int 2295, 528⟩
  | .bpf => .bpf ⟨nominalRate N, N.int 2075, N.int 2345⟩
  | .cbpf => .cbpf ⟨⟨nominalRate N, N.int 2075, N.int 2345⟩, 2⟩
  | .baudot => .baudot
  | .varicode => .varicode
  | .fskdemod => .fskdemod (rttyStandard N (nominalRate N))
  | .pskdemod => .pskdemod (psk31 N (nominalRate N) (N.int 1000))

/-- The fresh instance of a unit kind that `State.reset` holds. -/
def resetInstance (k : UnitKind) : Instance F64 := (resetParams b64 k).fresh machineConfig

end Sys2Proof.Machine
end

