-- ==== Sys2Proof/Machine/State.lean ====
section
/-! DEFINITION. The state of the machine: the system of unit instances (R322) with the streams that
carry commands in and responses out (R51), its faults and refusals, and the state after reset. -/

namespace Sys2Proof.Machine

/-- The reasons of a refusal record (R301). -/
inductive Reason where
  | reservedCommand
  | truncated
  | blockSizeMismatch
  | nonFinite
  | invalidConfiguration
  | tooLong
  deriving DecidableEq, Repr

/-- An event (R306, R75). -/
inductive Event where
  | decode (character : Byte) (frequency : F32)
  | signal (detected : Bool) (frequency : F32)
  deriving DecidableEq, Repr

/-- The result of a performed command, one constructor per result type of R74. -/
inductive Result where
  | none
  | f32 (v : F32)
  | u8 (v : Byte)
  | u32 (v : U32)
  | optU8 (v : Option Byte)
  | optF32 (v : Option F32)
  | listF32 (v : List F32)
  | listU8 (v : List Byte)
  | optListU8 (v : Option (List Byte))
  | supportedCodes (supported : Bool) (codes : List Byte)
  | events (es : List Event)
  deriving DecidableEq, Repr

/-- What a command yields (R72): its response, or a refusal record (R301). -/
inductive Response where
  | done (r : Result)
  | refused (reason : Reason)
  deriving DecidableEq, Repr

/-- One record of the output streams. -/
inductive OutRecord where
  /-- The response to a command of the instance `id`. -/
  | response (id : Nat) (r : Response)
  /-- The creator of `id` is told `InvalidConfiguration` (R330). -/
  | rejected (id : Nat)
  deriving DecidableEq, Repr

/-- What the surrounding system presents: the creation of an instance (R330), its discarding, or
bytes of the command stream of an instance (R70, R72). -/
inductive Request where
  | instantiate (id : Nat) (p : Params F64)
  | discard (id : Nat)
  | command (id : Nat) (bytes : List Byte)
  deriving DecidableEq, Repr

/-- The machine's state. -/
structure State where
  /-- The system of instances: a finite map from identifiers, strictly rising (R322). -/
  instances : List (Nat × Instance F64)
  /-- The `instance` part of the command being performed (R70). -/
  addressed : Nat
  /-- Requests not yet performed, first to be performed first (R51, R58). -/
  input : List Request
  /-- The responses so far, oldest first (R51, R59). -/
  output : List OutRecord
  deriving DecidableEq, Repr

/-- What stops the machine. -/
inductive Fault where
  /-- Raised by `step` and by every meaning: a command is presented for an identifier at which no
  instance exists, so that there is no hardware to perform it (R330, log 6). Safe: the spec gives
  such a command no effect. -/
  | noInstance
  deriving DecidableEq, Repr

/-- Why an instruction has no meaning in the model. -/
inductive Refusal where
  /-- Raised by `exec` for an operation the model gives no meaning yet. Safe. -/
  | notModelled (mnemonic : String)
  deriving DecidableEq, Repr

/-- The state after reset: one freshly instantiated instance of each unit kind, its identifier its
unit number (R73), every register at the init value of R332; nothing presented, nothing answered
(log 2, log 3, log 5). -/
def State.reset : State where
  instances :=
    [(0, resetInstance .osc), (1, resetInstance .goertzel), (2, resetInstance .fskdet),
     (3, resetInstance .bpf), (4, resetInstance .cbpf), (5, resetInstance .baudot),
     (6, resetInstance .varicode), (7, resetInstance .fskdemod), (8, resetInstance .pskdemod)]
  addressed := 0
  input := []
  output := []

end Sys2Proof.Machine
end

