-- ==== Sys2Proof/Machine/Operands.lean ====
section
/-! DEFINITION. Operands and results: the finiteness tests of R303, the masks of R71, the limits of
R304, and the serialised form of responses (R71, R72, R75). -/

namespace Sys2Proof.Machine

/-- The outcome of a command on a unit: a refusal reason, or the unit's new state and the result. -/
abbrev Performed (U : Type) := Except Reason (U × Result)

/-- R303: an `F32` operand is tested before any state is read or written. -/
def requireFinite {U : Type} (x : F32) (k : Unit → Performed U) : Performed U :=
  if x.isFinite then k () else .error .nonFinite

/-- R303: every element of a `LIST F32` operand is tested; one bad element refuses the whole. -/
def requireAllFinite {U : Type} (xs : List F32) (k : Unit → Performed U) : Performed U :=
  if xs.all F32.isFinite then k () else .error .nonFinite

/-- R305: the block length must be the configured window. -/
def requireLength {U : Type} (xs : List F32) (n : Nat) (k : Unit → Performed U) : Performed U :=
  if xs.length = n then k () else .error .blockSizeMismatch

/-- R304: a `LIST` result has fewer than 2³² elements. -/
def requireShort {U : Type} (len : Nat) (k : Unit → Performed U) : Performed U :=
  if len < 2 ^ 32 then k () else .error .tooLong

/-- R71, R161: a Baudot code operand is masked to its low 5 bits. -/
def baudotCodeOf (code : Byte) : Nat := (code.setWidth 5).toNat

/-- R71, R183, R222: a Varicode bit or a flag operand is masked to its low bit. -/
def lowBit (b : Byte) : Bool := b.getLsbD 0

/-- A flag as a `U8`, 0 or 1 (R54). -/
def flagByte (b : Bool) : Byte := if b then 1 else 0

/-! ### Serialised responses -/

/-- R301: the reason numbers. -/
def Reason.number : Reason → Byte
  | .reservedCommand => 1
  | .truncated => 2
  | .blockSizeMismatch => 3
  | .nonFinite => 4
  | .invalidConfiguration => 5
  | .tooLong => 6

/-- R75: an event record. -/
def Event.bytes : Event → List Byte
  | .decode c f => 1 :: c :: f32Bytes f
  | .signal d f => 2 :: flagByte d :: f32Bytes f

/-- R71: an `OPT T`. -/
def optBytes {α : Type} (write : α → List Byte) : Option α → List Byte
  | .none => [0]
  | .some a => 1 :: write a

/-- R71, R72: a result. -/
def Result.bytes : Result → List Byte
  | .none => []
  | .f32 v => f32Bytes v
  | .u8 v => [v]
  | .u32 v => bytesOf32 v
  | .optU8 v => optBytes u8Bytes v
  | .optF32 v => optBytes f32Bytes v
  | .listF32 v => listBytes f32Bytes v
  | .listU8 v => listBytes u8Bytes v
  | .optListU8 v => optBytes (listBytes u8Bytes) v
  | .supportedCodes s codes => flagByte s :: listBytes u8Bytes codes
  | .events es => listBytes Event.bytes es

/-- R72: a response, or the refusal record `FF reason`. -/
def Response.bytes : Response → List Byte
  | .done r => r.bytes
  | .refused reason => [0xFF, reason.number]

end Sys2Proof.Machine
end

