-- ==== Sys2Proof/Machine/Ops.lean ====
section
/-! DEFINITION. The named operations over the machine's state: reading and writing the instance a
command addresses, answering a command, refusing one (R301: the one thing this hardware has in place
of an exception), and the actions of the surrounding system (R330). -/

namespace Sys2Proof.Machine

/-! ### The finite map of instances -/

/-- The instance at an identifier. -/
def lookupInstance (id : Nat) : List (Nat × Instance F64) → Option (Instance F64)
  | [] => none
  | (k, u) :: rest => if k = id then some u else lookupInstance id rest

/-- The map with the instance at an identifier replaced, or entered in its place. -/
def setInstance (id : Nat) (v : Instance F64) :
    List (Nat × Instance F64) → List (Nat × Instance F64)
  | [] => [(id, v)]
  | (k, u) :: rest =>
    if id < k then (id, v) :: (k, u) :: rest
    else if k = id then (id, v) :: rest
    else (k, u) :: setInstance id v rest

/-- The map without an identifier. -/
def eraseInstance (id : Nat) : List (Nat × Instance F64) → List (Nat × Instance F64)
  | [] => []
  | (k, u) :: rest => if k = id then rest else (k, u) :: eraseInstance id rest

/-- The canonical form of the map: identifiers strictly rising. -/
def risingFrom (lo : Nat) : List (Nat × Instance F64) → Bool
  | [] => true
  | (k, _) :: rest => decide (lo ≤ k) && risingFrom (k + 1) rest

/-- The addressed instance. -/
def State.unit? (s : State) : Option (Instance F64) := lookupInstance s.addressed s.instances

/-! ### Answering a command -/

/-- A performed command: the addressed instance's new state, and the response at the end of the
output (R58, R72). -/
def State.complete (s : State) (u : Instance F64) (r : Result) : State :=
  { s with
    instances := setInstance s.addressed u s.instances
    output := s.output ++ [.response s.addressed (.done r)] }

/-- A refused command: no instance changes; a refusal record stands in place of the response
(R301). -/
def State.refuse (s : State) (reason : Reason) : State :=
  { s with output := s.output ++ [.response s.addressed (.refused reason)] }

/-- The outcome of a command on the addressed instance, once the unit has performed it. -/
def finish {U : Type} (s : State) (inj : U → Instance F64) :
    Performed U → Host.Outcome State Fault Refusal
  | .ok (u, r) => .next (s.complete (inj u) r)
  | .error reason => .next (s.refuse reason)

/-- Performs an operation of one unit kind on the addressed instance. An instance of another kind
refuses it with `ReservedCommand` (R76); where there is no instance there is no hardware (log 6). -/
def onUnit {U : Type} (proj : Instance F64 → Option U) (inj : U → Instance F64) (s : State)
    (f : U → Performed U) : Host.Outcome State Fault Refusal :=
  match s.unit? with
  | none => .fault .noInstance
  | some v =>
    match proj v with
    | some u => finish s inj (f u)
    | none => .next (s.refuse .reservedCommand)

/-! ### The unit kinds -/

def Instance.osc? : Instance F64 → Option (Osc F64)
  | .osc u => some u
  | _ => none

def Instance.goertzel? : Instance F64 → Option (Goertzel F64)
  | .goertzel u => some u
  | _ => none

def Instance.fskdet? : Instance F64 → Option (Fskdet F64)
  | .fskdet u => some u
  | _ => none

def Instance.bpf? : Instance F64 → Option (Bpf F64)
  | .bpf u => some u
  | _ => none

def Instance.cbpf? : Instance F64 → Option (Cbpf F64)
  | .cbpf u => some u
  | _ => none

def Instance.baudot? : Instance F64 → Option Baudot
  | .baudot u => some u
  | _ => none

def Instance.varicode? : Instance F64 → Option Varicode
  | .varicode u => some u
  | _ => none

def Instance.fskdemod? : Instance F64 → Option (FskDemod F64)
  | .fskdemod u => some u
  | _ => none

def Instance.pskdemod? : Instance F64 → Option (PskDemod F64)
  | .pskdemod u => some u
  | _ => none

def onOsc (s : State) (f : Osc F64 → Performed (Osc F64)) : Host.Outcome State Fault Refusal :=
  onUnit Instance.osc? .osc s f

def onGoertzel (s : State) (f : Goertzel F64 → Performed (Goertzel F64)) :
    Host.Outcome State Fault Refusal :=
  onUnit Instance.goertzel? .goertzel s f

def onFskdet (s : State) (f : Fskdet F64 → Performed (Fskdet F64)) :
    Host.Outcome State Fault Refusal :=
  onUnit Instance.fskdet? .fskdet s f

def onBpf (s : State) (f : Bpf F64 → Performed (Bpf F64)) : Host.Outcome State Fault Refusal :=
  onUnit Instance.bpf? .bpf s f

def onCbpf (s : State) (f : Cbpf F64 → Performed (Cbpf F64)) : Host.Outcome State Fault Refusal :=
  onUnit Instance.cbpf? .cbpf s f

def onBaudot (s : State) (f : Baudot → Performed Baudot) : Host.Outcome State Fault Refusal :=
  onUnit Instance.baudot? .baudot s f

def onVaricode (s : State) (f : Varicode → Performed Varicode) :
    Host.Outcome State Fault Refusal :=
  onUnit Instance.varicode? .varicode s f

def onFskDemod (s : State) (f : FskDemod F64 → Performed (FskDemod F64)) :
    Host.Outcome State Fault Refusal :=
  onUnit Instance.fskdemod? .fskdemod s f

def onPskDemod (s : State) (f : PskDemod F64 → Performed (PskDemod F64)) :
    Host.Outcome State Fault Refusal :=
  onUnit Instance.pskdemod? .pskdemod s f

/-! ### The surrounding system (R330) -/

/-- Instantiation: the preconditions are checked; if they hold the fresh instance stands at its
identifier, in place of one that was there (R63, log 7), else nothing changes and the creator is
told `InvalidConfiguration`. -/
def State.instantiate (s : State) (id : Nat) (p : Params F64) : State :=
  if p.valid machineConfig then
    { s with instances := setInstance id (p.fresh machineConfig) s.instances }
  else { s with output := s.output ++ [.rejected id] }

/-- Discarding an instance: it is no longer there; nothing is emitted (R330). -/
def State.discard (s : State) (id : Nat) : State :=
  { s with instances := eraseInstance id s.instances }

end Sys2Proof.Machine
end

