-- ==== Sys2Proof/Machine/Bandpass.lean ====
section
/-! DEFINITION. BPF and CBPF (spec/42_bandpass.md). -/

namespace Sys2Proof.Machine

variable {F : Type}

/-- `bstep(x)` of R141. -/
def bstep (C : Config F) (k : BpfCoef F) (b : BpfMem F) (x : F) : BpfMem F × F :=
  let N := C.num
  let y :=
    N.sub (N.sub (N.add (N.add (N.mul k.b0 x) (N.mul k.b1 b.x1)) (N.mul k.b2 b.x2))
      (N.mul k.a1 b.y1)) (N.mul k.a2 b.y2)
  (⟨x, b.x1, y, b.y1⟩, y)

/-- `cstep(x)` of R148: the sample through every section in order. -/
def cstep (C : Config F) (k : BpfCoef F) : List (BpfMem F) → F → List (BpfMem F) × F
  | [], v => ([], v)
  | b :: bs, v =>
    let p := bstep C k b v
    let q := cstep C k bs p.2
    (p.1 :: q.1, q.2)

/-- The fold of R144 and R151 over a list, each output rounded at the interface. -/
def filterRun {M : Type} (C : Config F) (f : M → F → M × F) : List F → M → M × List F32
  | [], m => (m, [])
  | x :: xs, m =>
    let p := f m x
    let q := filterRun C f xs p.1
    (q.1, C.num.toF32 p.2 :: q.2)

/-- The modulus of `re + j im` (log 15). -/
def modulus (C : Config F) (re im : F) : F :=
  C.num.sqrt (C.num.add (C.num.square re) (C.num.square im))

/-- `|p0 + p1 × z1 + p2 × z2|` of R145, with `z1 = cos w − j sin w` and `z2` the same of `2w`
(log 15). -/
def polyModulus (C : Config F) (p0 p1 p2 w : F) : F :=
  let N := C.num
  let w2 := N.mul (N.int 2) w
  modulus C
    (N.add (N.add p0 (N.mul p1 (N.cos w))) (N.mul p2 (N.cos w2)))
    (N.add (N.mul p1 (N.neg (N.sin w))) (N.mul p2 (N.neg (N.sin w2))))

/-- `MAG(hz)` of R145. -/
def bpfMagnitude (C : Config F) (fs : F) (k : BpfCoef F) (hz : F) : F :=
  let N := C.num
  let w := N.div (N.mul N.twoPi hz) fs
  N.div (polyModulus C k.b0 k.b1 k.b2 w) (polyModulus C N.one k.a1 k.a2 w)

/-- R152: the product of the sections' magnitudes. -/
def cascadeMagnitude (C : Config F) (fs : F) (k : BpfCoef F) (n : Nat) (hz : F) : F :=
  (List.replicate n ()).foldl (fun m _ => C.num.mul m (bpfMagnitude C fs k hz)) C.num.one

/-- R146, R153: decibels of a magnitude, with the floor. -/
def decibels (C : Config F) (m : F) : F :=
  C.num.mul (C.num.int 20) (C.num.log10 (C.num.max m C.dbFloor))

/-! ### BPF -/

/-- R142. -/
def bpfReset (C : Config F) (u : Bpf F) : Performed (Bpf F) :=
  .ok ({ u with mem := clearMem C }, .none)

/-- R143. -/
def bpfProcess (C : Config F) (sample : F32) (u : Bpf F) : Performed (Bpf F) :=
  requireFinite sample fun _ =>
    let p := bstep C (u.par.coef C) u.mem (C.num.ofF32 sample)
    .ok ({ u with mem := p.1 }, .f32 (C.num.toF32 p.2))

/-- R144. -/
def bpfProcessBlock (C : Config F) (samples : List F32) (u : Bpf F) : Performed (Bpf F) :=
  requireAllFinite samples fun _ =>
    let p := filterRun C (bstep C (u.par.coef C)) (samples.map C.num.ofF32) u.mem
    .ok ({ u with mem := p.1 }, .listF32 p.2)

/-- R145. -/
def bpfMag (C : Config F) (hz : F32) (u : Bpf F) : Performed (Bpf F) :=
  requireFinite hz fun _ =>
    .ok (u, .f32 (C.num.toF32 (bpfMagnitude C u.par.fs (u.par.coef C) (C.num.ofF32 hz))))

/-- R146. -/
def bpfMagDb (C : Config F) (hz : F32) (u : Bpf F) : Performed (Bpf F) :=
  requireFinite hz fun _ =>
    .ok (u, .f32 (C.num.toF32
      (decibels C (bpfMagnitude C u.par.fs (u.par.coef C) (C.num.ofF32 hz)))))

/-! ### CBPF -/

/-- R149: RESET of every section. -/
def cbpfReset (C : Config F) (u : Cbpf F) : Performed (Cbpf F) :=
  .ok ({ u with sec := u.sec.map fun _ => clearMem C }, .none)

/-- R150. -/
def cbpfProcess (C : Config F) (sample : F32) (u : Cbpf F) : Performed (Cbpf F) :=
  requireFinite sample fun _ =>
    let p := cstep C (u.par.band.coef C) u.sec (C.num.ofF32 sample)
    .ok ({ u with sec := p.1 }, .f32 (C.num.toF32 p.2))

/-- R151. -/
def cbpfProcessBlock (C : Config F) (samples : List F32) (u : Cbpf F) : Performed (Cbpf F) :=
  requireAllFinite samples fun _ =>
    let p := filterRun C (cstep C (u.par.band.coef C)) (samples.map C.num.ofF32) u.sec
    .ok ({ u with sec := p.1 }, .listF32 p.2)

/-- The magnitude of a CBPF instance (R152). -/
def Cbpf.magnitude (C : Config F) (u : Cbpf F) (hz : F) : F :=
  cascadeMagnitude C u.par.band.fs (u.par.band.coef C) u.par.n hz

/-- R152. -/
def cbpfMag (C : Config F) (hz : F32) (u : Cbpf F) : Performed (Cbpf F) :=
  requireFinite hz fun _ => .ok (u, .f32 (C.num.toF32 (u.magnitude C (C.num.ofF32 hz))))

/-- R153. -/
def cbpfMagDb (C : Config F) (hz : F32) (u : Cbpf F) : Performed (Cbpf F) :=
  requireFinite hz fun _ => .ok (u, .f32 (C.num.toF32 (decibels C (u.magnitude C (C.num.ofF32 hz)))))

/-! ### Meanings -/

/-- BPF.RESET (R142). -/
def execBpfReset (s : State) : Host.Outcome State Fault Refusal := onBpf s (bpfReset machineConfig)

/-- BPF.PROCESS (R143). -/
def execBpfProcess (sample : F32) (s : State) : Host.Outcome State Fault Refusal :=
  onBpf s (bpfProcess machineConfig sample)

/-- BPF.PROCESS_BLOCK (R144). -/
def execBpfProcessBlock (samples : List F32) (s : State) : Host.Outcome State Fault Refusal :=
  onBpf s (bpfProcessBlock machineConfig samples)

/-- BPF.MAG (R145). -/
def execBpfMag (hz : F32) (s : State) : Host.Outcome State Fault Refusal :=
  onBpf s (bpfMag machineConfig hz)

/-- BPF.MAG_DB (R146). -/
def execBpfMagDb (hz : F32) (s : State) : Host.Outcome State Fault Refusal :=
  onBpf s (bpfMagDb machineConfig hz)

/-- CBPF.RESET (R149). -/
def execCbpfReset (s : State) : Host.Outcome State Fault Refusal :=
  onCbpf s (cbpfReset machineConfig)

/-- CBPF.PROCESS (R150). -/
def execCbpfProcess (sample : F32) (s : State) : Host.Outcome State Fault Refusal :=
  onCbpf s (cbpfProcess machineConfig sample)

/-- CBPF.PROCESS_BLOCK (R151). -/
def execCbpfProcessBlock (samples : List F32) (s : State) : Host.Outcome State Fault Refusal :=
  onCbpf s (cbpfProcessBlock machineConfig samples)

/-- CBPF.MAG (R152). -/
def execCbpfMag (hz : F32) (s : State) : Host.Outcome State Fault Refusal :=
  onCbpf s (cbpfMag machineConfig hz)

/-- CBPF.MAG_DB (R153). -/
def execCbpfMagDb (hz : F32) (s : State) : Host.Outcome State Fault Refusal :=
  onCbpf s (cbpfMagDb machineConfig hz)

end Sys2Proof.Machine
end

