-- ==== Sys2Proof/Machine/Flags.lean ====
section
/-! DEFINITION. The five one-bit state registers of R22 and what sets and clears each. -/

namespace Sys2Proof.Machine

variable {F : Type}

/-- `LTRS_CODE` (R160). -/
def ltrsCode : Nat := 31

/-- `FIGS_CODE` (R160). -/
def figsCode : Nat := 27

/-- `SPACE_CODE` (R160). -/
def spaceCode : Nat := 4

/-- `BAUDOT.figs` after a received 5-bit code: LTRS clears it, FIGS sets it, every other code leaves
it (R161, C5). -/
def figsAfterCode (figs : Bool) (k : Nat) : Bool :=
  if k = ltrsCode then false else if k = figsCode then true else figs

/-- `VARICODE.ovf` when the shift register is about to lose its most significant bit (R183). -/
def ovfAfterShift (C : Config F) (ovf : Bool) (acc : Nat) : Bool :=
  ovf || acc.testBit (C.vAccBits - 1)

/-- `FSKDEMOD.detected` after a step (R209): set at `strength ≥ sq`, cleared below
`HYST_OFF × sq`, else kept. -/
def fskDetectedNext (C : Config F) (detected : Bool) (strength sq : F) : Bool :=
  if detected = false && C.num.le sq strength then true
  else if detected = true && C.num.lt strength (C.num.mul C.hystOff sq) then false
  else detected

/-- `FSKDEMOD.reverse` from the operand of SET_REVERSE (R222). -/
def reverseOf (flag : Byte) : Bool := flag.getLsbD 0

/-- `PSKDEMOD.detected` at a symbol boundary (R258): `p > PSK_POWER_FLOOR` and `snr > SNR_MIN`. -/
def pskDetectedNext (C : Config F) (p snr : F) : Bool :=
  C.num.lt C.pskPowerFloor p && C.num.lt C.snrMin snr

end Sys2Proof.Machine
end

