-- ==== Sys2Proof/Machine/BaudotCodec.lean ====
section
/-! DEFINITION. BAUDOT (spec/43_baudot.md). -/

namespace Sys2Proof.Machine

variable {F : Type}

/-- `table(f)` of R160. -/
def baudotTable (C : Config F) (figs : Bool) : List (Option Byte) :=
  if figs then C.baudotFigs else C.baudotLtrs

/-- R161 on a code already masked to 5 bits. -/
def baudotDecodeCode (C : Config F) (u : Baudot) (k : Nat) : Baudot × Option Byte :=
  (⟨figsAfterCode u.figs k⟩,
    if k = ltrsCode then none
    else if k = figsCode then none
    else (baudotTable C u.figs).getD k none)

/-- R162: the characters of a list of codes. -/
def baudotDecodeRun (C : Config F) : List Byte → Baudot → Baudot × List Byte
  | [], u => (u, [])
  | code :: codes, u =>
    let p := baudotDecodeCode C u (baudotCodeOf code)
    let q := baudotDecodeRun C codes p.1
    (q.1, p.2.toList ++ q.2)

/-- `upper(u)` of R160. -/
def upper (u : U32) : U32 := if 0x61 ≤ u.toNat ∧ u.toNat ≤ 0x7A then u - 0x20 else u

/-- The code at which a table holds a character. -/
def findCode (table : List (Option Byte)) (u : U32) : Option Nat :=
  table.findIdx? fun e => (e.map BitVec.toNat) == some u.toNat

/-- In which table the inverse table of R81 places a character. -/
inductive CodeShift where
  | letters | figures | both
  deriving DecidableEq, Repr

/-- `lookup(u)` of R160: the inverse table of R81, read off the tables of R80. -/
def baudotLookup (C : Config F) (u : U32) : Option (Nat × CodeShift) :=
  match findCode C.baudotLtrs u, findCode C.baudotFigs u with
  | some k, some _ => some (k, .both)
  | some k, none => some (k, .letters)
  | none, some k => some (k, .figures)
  | none, none => none

/-- A code as a `U8`, the upper three bits zero (R54). -/
def codeByte (k : Nat) : Byte := BitVec.ofNat 8 k

/-- R163: the shift code, where one is needed, then the character code. -/
def baudotEmit (u : Baudot) : Nat × CodeShift → Baudot × List Byte
  | (k, .letters) => if u.figs then (⟨false⟩, [codeByte ltrsCode, codeByte k]) else (u, [codeByte k])
  | (k, .figures) => if u.figs then (u, [codeByte k]) else (⟨true⟩, [codeByte figsCode, codeByte k])
  | (k, .both) => (u, [codeByte k])

/-- R163: the codes of one character; an unsupported one is encoded as a space. -/
def baudotEncodeOne (C : Config F) (u : Baudot) (scalar : U32) : Baudot × List Byte :=
  baudotEmit u ((baudotLookup C (upper scalar)).getD (spaceCode, .both))

/-- R164: the codes of a text. -/
def baudotEncodeRun (C : Config F) : List U32 → Baudot → Baudot × List Byte
  | [], u => (u, [])
  | c :: text, u =>
    let p := baudotEncodeOne C u c
    let q := baudotEncodeRun C text p.1
    (q.1, p.2 ++ q.2)

/-- R166. -/
def baudotReset (_ : Baudot) : Performed Baudot := .ok (⟨false⟩, .none)

/-- R161. -/
def baudotDecode (C : Config F) (code : Byte) (u : Baudot) : Performed Baudot :=
  let p := baudotDecodeCode C u (baudotCodeOf code)
  .ok (p.1, .optU8 p.2)

/-- R162. -/
def baudotDecodeCodes (C : Config F) (codes : List Byte) (u : Baudot) : Performed Baudot :=
  let p := baudotDecodeRun C codes u
  .ok (p.1, .listU8 p.2)

/-- R163: the flag `supported` carries whether the character is in the alphabet (C1). -/
def baudotEncodeChar (C : Config F) (scalar : U32) (u : Baudot) : Performed Baudot :=
  let p := baudotEncodeOne C u scalar
  .ok (p.1, .supportedCodes (baudotLookup C (upper scalar)).isSome p.2)

/-- R164. -/
def baudotEncodeString (C : Config F) (text : List U32) (u : Baudot) : Performed Baudot :=
  let p := baudotEncodeRun C text u
  requireShort p.2.length fun _ => .ok (p.1, .listU8 p.2)

/-- R165: `n` LTRS codes, after which the encoder's shift is Letters, then the text. -/
def baudotEncodeWithPreamble (C : Config F) (text : List U32) (preambleCount : U32) (u : Baudot) :
    Performed Baudot :=
  let n := preambleCount.toNat
  let p := baudotEncodeRun C text (if 1 ≤ n then ⟨false⟩ else u)
  requireShort (n + p.2.length) fun _ =>
    .ok (p.1, .listU8 (List.replicate n (codeByte ltrsCode) ++ p.2))

/-! ### Meanings -/

/-- BAUDOT.RESET (R166). -/
def execBaudotReset (s : State) : Host.Outcome State Fault Refusal := onBaudot s baudotReset

/-- BAUDOT.DECODE (R161). -/
def execBaudotDecode (code : Byte) (s : State) : Host.Outcome State Fault Refusal :=
  onBaudot s (baudotDecode machineConfig code)

/-- BAUDOT.DECODE_CODES (R162). -/
def execBaudotDecodeCodes (codes : List Byte) (s : State) : Host.Outcome State Fault Refusal :=
  onBaudot s (baudotDecodeCodes machineConfig codes)

/-- BAUDOT.ENCODE_CHAR (R163). -/
def execBaudotEncodeChar (scalar : U32) (s : State) : Host.Outcome State Fault Refusal :=
  onBaudot s (baudotEncodeChar machineConfig scalar)

/-- BAUDOT.ENCODE_STRING (R164). -/
def execBaudotEncodeString (text : List U32) (s : State) : Host.Outcome State Fault Refusal :=
  onBaudot s (baudotEncodeString machineConfig text)

/-- BAUDOT.ENCODE_WITH_PREAMBLE (R165). -/
def execBaudotEncodeWithPreamble (text : List U32) (preambleCount : U32) (s : State) :
    Host.Outcome State Fault Refusal :=
  onBaudot s (baudotEncodeWithPreamble machineConfig text preambleCount)

end Sys2Proof.Machine
end

