-- ==== Sys2Proof/Machine/Correlator.lean ====
section
/-! DEFINITION. GOERTZEL and FSKDET (spec/41_goertzel.md). -/

namespace Sys2Proof.Machine

variable {F : Type}

/-- `gstep(x)` of R120 with coefficient `c`. -/
def gstep (C : Config F) (c : F) (g : GoertzelAcc F) (x : F) : GoertzelAcc F :=
  let N := C.num
  ⟨N.sub (N.add x (N.mul c g.s1)) g.s2, g.s1, g.n + 1⟩

/-- The parenthesised term of R121: `s1² + s2² − c × s1 × s2`. -/
def goertzelTerm (C : Config F) (c : F) (g : GoertzelAcc F) : F :=
  let N := C.num
  N.sub (N.add (N.square g.s1) (N.square g.s2)) (N.mul (N.mul c g.s1) g.s2)

/-- R121: in rounded arithmetic a negative power is replaced by 0. -/
def notNegative (C : Config F) (p : F) : F := if C.num.lt p C.num.zero then C.num.zero else p

/-- `gpower()` of R121 for block size `n`. -/
def gpower (C : Config F) (n : Nat) (c : F) (g : GoertzelAcc F) : F :=
  notNegative C (C.num.mul (goertzelTerm C c g) (C.gScale n))

/-- R124: one sample, and the power when it completes the block. -/
def goertzelFeed (C : Config F) (n : Nat) (c : F) (g : GoertzelAcc F) (x : F) :
    GoertzelAcc F × Option F :=
  let g' := gstep C c g x
  if g'.n = n then (emptyAcc C, some (gpower C n c g')) else (g', none)

/-- R123: the power of one whole block, from an empty accumulator. -/
def goertzelBlock (C : Config F) (n : Nat) (c : F) (xs : List F) : F :=
  gpower C n c (xs.foldl (gstep C c) (emptyAcc C))

/-- R130. -/
def correlation (C : Config F) (pm ps : F) : F :=
  let N := C.num
  let total := N.add pm ps
  if N.lt total C.powerFloor then N.zero else N.div (N.sub pm ps) total

/-- The coefficient of a GOERTZEL instance (R120). -/
def GoertzelParams.coef (C : Config F) (p : GoertzelParams F) : F := goertzelCoef C p.fs p.f

/-- The mark coefficient of an FSKDET instance (R26). -/
def FskdetParams.coefM (C : Config F) (p : FskdetParams F) : F := goertzelCoef C p.fs p.mark

/-- The space coefficient of an FSKDET instance (R26). -/
def FskdetParams.coefS (C : Config F) (p : FskdetParams F) : F := goertzelCoef C p.fs p.space

/-! ### GOERTZEL -/

/-- R122. -/
def goertzelReset (C : Config F) (u : Goertzel F) : Performed (Goertzel F) :=
  .ok ({ u with acc := emptyAcc C }, .none)

/-- R124. -/
def goertzelProcess (C : Config F) (sample : F32) (u : Goertzel F) : Performed (Goertzel F) :=
  requireFinite sample fun _ =>
    let p := goertzelFeed C u.par.n (u.par.coef C) u.acc (C.num.ofF32 sample)
    .ok ({ u with acc := p.1 }, .optF32 (p.2.map C.num.toF32))

/-- R123. -/
def goertzelProcessBlock (C : Config F) (samples : List F32) (u : Goertzel F) :
    Performed (Goertzel F) :=
  requireLength samples u.par.n fun _ => requireAllFinite samples fun _ =>
    .ok ({ u with acc := emptyAcc C },
      .f32 (C.num.toF32 (goertzelBlock C u.par.n (u.par.coef C) (samples.map C.num.ofF32))))

/-! ### FSKDET -/

/-- R131. -/
def fskdetReset (C : Config F) (u : Fskdet F) : Performed (Fskdet F) :=
  .ok ({ u with m := emptyAcc C, s := emptyAcc C }, .none)

/-- R133. The space correlator's nil never matters: both blocks complete on the same sample. -/
def fskdetProcess (C : Config F) (sample : F32) (u : Fskdet F) : Performed (Fskdet F) :=
  requireFinite sample fun _ =>
    let x := C.num.ofF32 sample
    let rm := goertzelFeed C u.par.n (u.par.coefM C) u.m x
    let rs := goertzelFeed C u.par.n (u.par.coefS C) u.s x
    let r : Option F :=
      match rm.2, rs.2 with
      | some pm, some ps => some (correlation C pm ps)
      | _, _ => none
    .ok ({ u with m := rm.1, s := rs.1 }, .optF32 (r.map C.num.toF32))

/-- R132. -/
def fskdetProcessBlock (C : Config F) (samples : List F32) (u : Fskdet F) :
    Performed (Fskdet F) :=
  requireLength samples u.par.n fun _ => requireAllFinite samples fun _ =>
    let xs := samples.map C.num.ofF32
    let pm := goertzelBlock C u.par.n (u.par.coefM C) xs
    let ps := goertzelBlock C u.par.n (u.par.coefS C) xs
    .ok ({ u with m := emptyAcc C, s := emptyAcc C }, .f32 (C.num.toF32 (correlation C pm ps)))

/-! ### Meanings -/

/-- GOERTZEL.RESET (R122). -/
def execGoertzelReset (s : State) : Host.Outcome State Fault Refusal :=
  onGoertzel s (goertzelReset machineConfig)

/-- GOERTZEL.PROCESS (R124). -/
def execGoertzelProcess (sample : F32) (s : State) : Host.Outcome State Fault Refusal :=
  onGoertzel s (goertzelProcess machineConfig sample)

/-- GOERTZEL.PROCESS_BLOCK (R123). -/
def execGoertzelProcessBlock (samples : List F32) (s : State) :
    Host.Outcome State Fault Refusal :=
  onGoertzel s (goertzelProcessBlock machineConfig samples)

/-- FSKDET.RESET (R131). -/
def execFskdetReset (s : State) : Host.Outcome State Fault Refusal :=
  onFskdet s (fskdetReset machineConfig)

/-- FSKDET.PROCESS (R133). -/
def execFskdetProcess (sample : F32) (s : State) : Host.Outcome State Fault Refusal :=
  onFskdet s (fskdetProcess machineConfig sample)

/-- FSKDET.PROCESS_BLOCK (R132). -/
def execFskdetProcessBlock (samples : List F32) (s : State) : Host.Outcome State Fault Refusal :=
  onFskdet s (fskdetProcessBlock machineConfig samples)

end Sys2Proof.Machine
end

