-- ==== Sys2Proof/Machine/FskDemodulator.lean ====
section
/-! DEFINITION. FSKDEMOD (spec/45_fsk_demod.md). The parts of a step are functions of their own, in
the order R205 gives them. -/

namespace Sys2Proof.Machine

variable {F : Type}

/-! ### The per-sample path (R202) -/

/-- The gain after a sample whose scaled value is `z` (R203). -/
def agcGain (C : Config F) (gain z : F) : F :=
  let N := C.num
  N.clamp
    (if N.lt C.agcTarget (N.abs z) then N.mul gain (N.sub N.one C.agcAttack)
     else N.mul gain (N.add N.one C.agcDecay))
    C.gainMin C.gainMax

/-- `agc(y)` of R203: the sample scaled by the gain as it was, and the gain updated. -/
def fskAgc (C : Config F) (u : FskDemod F) (y : F) : FskDemod F × F :=
  let z := C.num.mul y u.gain
  ({ u with gain := agcGain C u.gain z }, z)

/-- `push(z)` of R204. -/
def fskPush (C : Config F) (u : FskDemod F) (z : F) : FskDemod F :=
  { u with ring := u.ring.set u.wpos z, wpos := (u.wpos + 1) % u.par.window C }

/-- `window()` of R204: the ring from its oldest element on, wrapping at its end (log 23). -/
def FskDemod.analysisWindow (u : FskDemod F) : List F := u.ring.drop u.wpos ++ u.ring.take u.wpos

/-! ### The step (R205) -/

/-- `gwin(c)` of R206: the power of R121 with `N = W`, over the window (log 14). -/
def gwin (C : Config F) (c : F) (win : List F) : F := goertzelBlock C win.length c win

/-- The powers `mP` and `sP` of the current window (R206). -/
def fskPowers (C : Config F) (u : FskDemod F) : F × F :=
  (gwin C (u.cM C) u.analysisWindow, gwin C (u.cS C) u.analysisWindow)

/-- R206: the correlation, after polarity. -/
def fskCorrelate (C : Config F) (p : F × F) (u : FskDemod F) : FskDemod F :=
  let c := correlation C p.1 p.2
  { u with corr := if u.reverse then C.num.neg c else c }

/-- The sum of R207 over a history, its first entry weighted `w`. -/
def weightedSum (C : Config F) : Nat → F → List F → F
  | _, sum, [] => sum
  | w, sum, h :: hs => weightedSum C (w + 1) (C.num.add sum (C.num.mul (C.num.nat w) h)) hs

/-- The divisor of R207: `1 + 2 + … + HIST_LEN`. -/
def weightTotal (C : Config F) : Nat := C.histLen * (C.histLen + 1) / 2

/-- R207: the strength of a history. -/
def historyStrength (C : Config F) (hist : List F) : F :=
  C.num.div (weightedSum C 1 C.num.zero hist) (C.num.nat (weightTotal C))

/-- R207. -/
def fskStrength (C : Config F) (p : F × F) (u : FskDemod F) : FskDemod F :=
  let N := C.num
  let v := N.min N.one (N.div (N.add p.1 p.2) (N.mul C.agcTarget C.agcTarget))
  let hist := u.hist.drop 1 ++ [v]
  { u with hist := hist, strength := historyStrength C hist }

/-- R208: the noise floor. -/
def fskNoiseFloor (C : Config F) (u : FskDemod F) : FskDemod F :=
  let N := C.num
  let rate := if N.lt u.strength u.noiseFloor then C.nfDown else C.nfUp
  { u with
    noiseFloor :=
      N.clamp (N.add u.noiseFloor (N.mul rate (N.sub u.strength u.noiseFloor))) C.nfMin C.nfMax }

/-- R208: the effective squelch `sq`. -/
def fskSquelch (C : Config F) (u : FskDemod F) : F :=
  if C.num.lt C.num.zero u.squelchManual then u.squelchManual
  else C.num.mul C.squelchFactor u.noiseFloor

/-- R209: the flag, and a SIGNAL event where it changes; the event carries the tuned frequency
without the AFC offset (R307). -/
def fskDetect (C : Config F) (sq : F) (u : FskDemod F) : FskDemod F × List Event :=
  let d := fskDetectedNext C u.detected u.strength sq
  ({ u with detected := d },
    if d = u.detected then [] else [.signal d (C.num.toF32 u.markTuned)])

/-- R210: the separation of the bank pair `j`. -/
def fskSeparation (C : Config F) (u : FskDemod F) (j : Fin 5) : F :=
  C.num.abs
    (C.num.sub (gwin C (u.cMo C j) u.analysisWindow) (gwin C (u.cSo C j) u.analysisWindow))

/-- R210: the best offset; offset 0 is the incumbent, a tie keeps the earlier candidate. -/
def afcBest (C : Config F) (sep : Fin 5 → F) : F :=
  (([0, 1, 3, 4] : List (Fin 5)).foldl
    (fun best j => if C.num.lt best.2 (sep j) then (C.afcOffsets j, sep j) else best)
    (C.num.zero, sep 2)).1

/-- R210: the smoothed correction after a scan that found `best`. -/
def afcSmoothed (C : Config F) (smooth best : F) : F :=
  C.num.add smooth (C.num.mul C.afcAlpha (C.num.sub best smooth))

/-- R210: the AFC scan, every `AFC_PERIOD` steps. -/
def fskAfcScan (C : Config F) (u : FskDemod F) : FskDemod F :=
  let count := u.afcCount + 1
  if count = C.afcPeriod then
    if u.par.afcEnabled && u.detected then
      { u with afcCount := 0, afcSmooth := afcSmoothed C u.afcSmooth (afcBest C (fskSeparation C u)) }
    else { u with afcCount := 0 }
  else { u with afcCount := count }

/-- R211: the retune, only in `WaitingForStart`. The constants of `rebuild()` (R201) are functions of
the effective frequency (log 17); the filter memories it clears are state. -/
def fskRetune (C : Config F) (u : FskDemod F) : FskDemod F :=
  let N := C.num
  if N.lt C.afcRetuneHz (N.abs u.afcSmooth) && decide (u.phase = .waitingForStart) then
    if u.par.validMark C (N.add (N.add u.markTuned u.afcOffset) u.afcSmooth) then
      { u with
        afcOffset := N.add u.afcOffset u.afcSmooth
        afcSmooth := N.zero
        bpf := clearSections C C.bpfSections }
    else { u with afcSmooth := N.zero }
  else u

/-! ### The bit-timing state machine (R212 to R217) -/

/-- `enterWaiting()`. -/
def fskEnterWaiting (C : Config F) (u : FskDemod F) : FskDemod F :=
  { u with phase := .waitingForStart, tick := 0, bitIndex := 0, code := 0, minConf := C.num.one }

/-- `conf(c)` of R217. -/
def fskConfidence (C : Config F) (c : F) : F :=
  let N := C.num
  N.clamp (N.div (N.sub (N.abs c) C.thresh) (N.sub C.confFull C.thresh)) N.zero N.one

/-- R212. -/
def fskWaitingForStart (C : Config F) (u : FskDemod F) : FskDemod F :=
  if C.num.lt u.corr (C.num.neg C.thresh) then { u with phase := .inStartBit, tick := 2 } else u

/-- R213. -/
def fskInStartBit (C : Config F) (u : FskDemod F) : FskDemod F :=
  let t := u.tick + 1
  if t = C.sampleTick then
    if C.num.lt u.corr C.num.zero then { u with tick := t } else fskEnterWaiting C u
  else
    { u with tick := 0, bitIndex := 0, code := 0, minConf := C.num.one, phase := .receivingData }

/-- R214: the code with the data bit of the present correlation in its place. -/
def fskCodeWithBit (C : Config F) (u : FskDemod F) : BitVec 5 :=
  u.code ||| (if C.num.lt C.num.zero u.corr then (1 : BitVec 5) <<< u.bitIndex else 0)

/-- R214. When the fifth data bit ends `bitIndex` stays at 4, as R214's pseudocode and V-FSM1's step 24
have it, and `enterWaiting()` clears it after the stop bit; the table of R317 has it wrap to 0 there.
That the pseudocode is followed is the model's choice (DEDUCED from D28 and C11, log 28). -/
def fskReceivingData (C : Config F) (u : FskDemod F) : FskDemod F :=
  let t := u.tick + 1
  if t = C.sampleTick then
    { u with
      tick := t
      code := fskCodeWithBit C u
      minConf := C.num.min u.minConf (fskConfidence C u.corr) }
  else if t = C.stepsPerBit then
    if u.bitIndex = 4 then { u with tick := 0, phase := .inStopBits }
    else { u with tick := 0, bitIndex := u.bitIndex + 1 }
  else { u with tick := t }

/-- `deliver()` of R216: the gate stands before the decoder. -/
def fskDeliver (C : Config F) (sq : F) (u : FskDemod F) : FskDemod F × List Event :=
  if C.num.le sq u.strength && C.num.le u.par.minConfidence u.minConf then
    let p := baudotDecodeCode C u.dec u.code.toNat
    ({ u with dec := p.1 },
      match p.2 with
      | some ch => [.decode ch (C.num.toF32 u.markTuned)]
      | none => [])
  else (u, [])

/-- R215. -/
def fskInStopBits (C : Config F) (sq : F) (u : FskDemod F) : FskDemod F × List Event :=
  let t := u.tick + 1
  if t = C.sampleTick then
    let p := if C.num.lt C.thresh u.corr then fskDeliver C sq u else (u, [])
    (fskEnterWaiting C p.1, p.2)
  else ({ u with tick := t }, [])

/-- Exactly one of R212 to R215: the one for the phase at which this part of the step begins. -/
def fskMachine (C : Config F) (sq : F) (u : FskDemod F) : FskDemod F × List Event :=
  match u.phase with
  | .waitingForStart => (fskWaitingForStart C u, [])
  | .inStartBit => (fskInStartBit C u, [])
  | .receivingData => (fskReceivingData C u, [])
  | .inStopBits => fskInStopBits C sq u

/-- The parts of a step up to the noise floor (R206 to R208). -/
def fskMeasure (C : Config F) (u : FskDemod F) : FskDemod F :=
  let p := fskPowers C u
  fskNoiseFloor C (fskStrength C p (fskCorrelate C p u))

/-- `step()` of R205. -/
def fskStep (C : Config F) (u : FskDemod F) : FskDemod F × List Event :=
  let u1 := fskMeasure C u
  let sq := fskSquelch C u1
  let d := fskDetect C sq u1
  let m := fskMachine C sq (fskRetune C (fskAfcScan C d.1))
  (m.1, d.2 ++ m.2)

/-- The first three actions of R202: filter, AGC, window. -/
def fskFrontEnd (C : Config F) (u : FskDemod F) (x : F) : FskDemod F :=
  let f := cstep C (u.coef C) u.bpf x
  let a := fskAgc C { u with bpf := f.1 } f.2
  fskPush C a.1 a.2

/-- R202, on a sample in the carrier. -/
def fskSample (C : Config F) (u : FskDemod F) (x : F) : FskDemod F × List Event :=
  let u1 := fskFrontEnd C u x
  let count := u1.sampleCount + 1
  if count = u1.par.step C then fskStep C { u1 with sampleCount := 0 }
  else ({ u1 with sampleCount := count }, [])

/-- R218: the samples of a block one by one, their events concatenated in order. -/
def fskRun (C : Config F) : List F → FskDemod F → FskDemod F × List Event
  | [], u => (u, [])
  | x :: xs, u =>
    let p := fskSample C u x
    let q := fskRun C xs p.1
    (q.1, p.2 ++ q.2)

/-! ### The operations -/

/-- The registers R219 writes; the settings are kept. -/
def fskCleared (C : Config F) (u : FskDemod F) : FskDemod F :=
  let z := C.num.zero
  let u1 : FskDemod F :=
    { u with
      afcOffset := z
      afcSmooth := z
      afcCount := 0
      bpf := clearSections C C.bpfSections
      gain := C.num.one
      ring := u.ring.map fun _ => z
      wpos := 0
      sampleCount := 0
      corr := z
      hist := u.hist.map fun _ => z
      strength := z
      noiseFloor := C.nfInit
      detected := false }
  { fskEnterWaiting C u1 with dec := initBaudot }

/-- R219. -/
def fskdemodReset (C : Config F) (u : FskDemod F) : Performed (FskDemod F) :=
  .ok (fskCleared C u, .none)

/-- R202. -/
def fskdemodProcessSample (C : Config F) (sample : F32) (u : FskDemod F) :
    Performed (FskDemod F) :=
  requireFinite sample fun _ =>
    let p := fskSample C u (C.num.ofF32 sample)
    .ok (p.1, .events p.2)

/-- R218. -/
def fskdemodProcessBlock (C : Config F) (samples : List F32) (u : FskDemod F) :
    Performed (FskDemod F) :=
  requireAllFinite samples fun _ =>
    let p := fskRun C (samples.map C.num.ofF32) u
    .ok (p.1, .events p.2)

/-- R220. -/
def fskdemodTune (C : Config F) (markHz : F32) (u : FskDemod F) : Performed (FskDemod F) :=
  requireFinite markHz fun _ =>
    let f := C.num.ofF32 markHz
    if u.par.validMark C f then .ok (fskCleared C { u with markTuned := f }, .none)
    else .error .invalidConfiguration

/-- R221. -/
def fskdemodSetSquelch (C : Config F) (level : F32) (u : FskDemod F) : Performed (FskDemod F) :=
  requireFinite level fun _ => .ok ({ u with squelchManual := C.num.ofF32 level }, .none)

/-- R222. -/
def fskdemodSetReverse (flag : Byte) (u : FskDemod F) : Performed (FskDemod F) :=
  .ok ({ u with reverse := reverseOf flag }, .none)

/-- R223. -/
def fskdemodGetStrength (C : Config F) (u : FskDemod F) : Performed (FskDemod F) :=
  .ok (u, .f32 (C.num.toF32 u.strength))

/-- R224. -/
def fskdemodGetDetected (u : FskDemod F) : Performed (FskDemod F) :=
  .ok (u, .u8 (flagByte u.detected))

/-! ### Meanings -/

/-- FSKDEMOD.RESET (R219). -/
def execFskdemodReset (s : State) : Host.Outcome State Fault Refusal :=
  onFskDemod s (fskdemodReset machineConfig)

/-- FSKDEMOD.PROCESS_SAMPLE (R202). -/
def execFskdemodProcessSample (sample : F32) (s : State) : Host.Outcome State Fault Refusal :=
  onFskDemod s (fskdemodProcessSample machineConfig sample)

/-- FSKDEMOD.PROCESS_BLOCK (R218). -/
def execFskdemodProcessBlock (samples : List F32) (s : State) :
    Host.Outcome State Fault Refusal :=
  onFskDemod s (fskdemodProcessBlock machineConfig samples)

/-- FSKDEMOD.TUNE (R220). -/
def execFskdemodTune (markHz : F32) (s : State) : Host.Outcome State Fault Refusal :=
  onFskDemod s (fskdemodTune machineConfig markHz)

/-- FSKDEMOD.SET_SQUELCH (R221). -/
def execFskdemodSetSquelch (level : F32) (s : State) : Host.Outcome State Fault Refusal :=
  onFskDemod s (fskdemodSetSquelch machineConfig level)

/-- FSKDEMOD.SET_REVERSE (R222). -/
def execFskdemodSetReverse (flag : Byte) (s : State) : Host.Outcome State Fault Refusal :=
  onFskDemod s (fskdemodSetReverse flag)

/-- FSKDEMOD.GET_STRENGTH (R223). -/
def execFskdemodGetStrength (s : State) : Host.Outcome State Fault Refusal :=
  onFskDemod s (fskdemodGetStrength machineConfig)

/-- FSKDEMOD.GET_DETECTED (R224). -/
def execFskdemodGetDetected (s : State) : Host.Outcome State Fault Refusal :=
  onFskDemod s fskdemodGetDetected

end Sys2Proof.Machine
end

