-- ==== Sys2Proof/Machine/Oscillator.lean ====
section
/-! DEFINITION. OSC, the tone oscillator (spec/40_oscillator.md). -/

namespace Sys2Proof.Machine

variable {F : Type}

/-- R102: the sample of the present phase, and the unit with its phase advanced (R100). -/
def oscSample (C : Config F) (u : Osc F) : Osc F × F :=
  let N := C.num
  let y := N.mul C.oscAmp (N.sin u.phase)
  ({ u with phase := N.wrap (N.add u.phase (N.div (N.mul N.twoPi u.freq) u.par.fs)) }, y)

/-- R103: `count` successive samples, each rounded to `F32` at the interface. -/
def oscRun (C : Config F) : Nat → Osc F → Osc F × List F32
  | 0, u => (u, [])
  | count + 1, u =>
    let p := oscSample C u
    let q := oscRun C count p.1
    (q.1, C.num.toF32 p.2 :: q.2)

/-- R101. -/
def oscReset (C : Config F) (u : Osc F) : Performed (Osc F) :=
  .ok ({ u with phase := C.num.zero }, .none)

/-- R102. -/
def oscNextSample (C : Config F) (u : Osc F) : Performed (Osc F) :=
  let p := oscSample C u
  .ok (p.1, .f32 (C.num.toF32 p.2))

/-- R103. -/
def oscGenerateCount (C : Config F) (count : U32) (u : Osc F) : Performed (Osc F) :=
  let p := oscRun C count.toNat u
  .ok (p.1, .listF32 p.2)

/-- R104: the number of samples of a duration. -/
def durationCount (C : Config F) (seconds fs : F) : Nat :=
  if C.num.le seconds C.num.zero then 0 else (C.num.floor (C.num.mul seconds fs)).toNat

/-- R104. -/
def oscGenerateDuration (C : Config F) (seconds : F32) (u : Osc F) : Performed (Osc F) :=
  requireFinite seconds fun _ =>
    let count := durationCount C (C.num.ofF32 seconds) u.par.fs
    requireShort count fun _ =>
      let p := oscRun C count u
      .ok (p.1, .listF32 p.2)

/-- R105. -/
def oscSetFrequency (C : Config F) (hz : F32) (u : Osc F) : Performed (Osc F) :=
  requireFinite hz fun _ => .ok ({ u with freq := C.num.ofF32 hz }, .none)

/-- R106. -/
def oscSetPhase (C : Config F) (radians : F32) (u : Osc F) : Performed (Osc F) :=
  requireFinite radians fun _ => .ok ({ u with phase := C.num.wrap (C.num.ofF32 radians) }, .none)

/-! ### Meanings -/

/-- OSC.RESET (R101). -/
def execOscReset (s : State) : Host.Outcome State Fault Refusal := onOsc s (oscReset machineConfig)

/-- OSC.NEXT_SAMPLE (R102). -/
def execOscNextSample (s : State) : Host.Outcome State Fault Refusal :=
  onOsc s (oscNextSample machineConfig)

/-- OSC.GENERATE_COUNT (R103). -/
def execOscGenerateCount (count : U32) (s : State) : Host.Outcome State Fault Refusal :=
  onOsc s (oscGenerateCount machineConfig count)

/-- OSC.GENERATE_DURATION (R104). -/
def execOscGenerateDuration (seconds : F32) (s : State) : Host.Outcome State Fault Refusal :=
  onOsc s (oscGenerateDuration machineConfig seconds)

/-- OSC.SET_FREQUENCY (R105). -/
def execOscSetFrequency (hz : F32) (s : State) : Host.Outcome State Fault Refusal :=
  onOsc s (oscSetFrequency machineConfig hz)

/-- OSC.SET_PHASE (R106). -/
def execOscSetPhase (radians : F32) (s : State) : Host.Outcome State Fault Refusal :=
  onOsc s (oscSetPhase machineConfig radians)

end Sys2Proof.Machine
end

