-- ==== Sys2Proof/Machine/VaricodeCodec.lean ====
section
/-! DEFINITION. VARICODE (spec/44_varicode.md). -/

namespace Sys2Proof.Machine

variable {F : Type}

/-- The `n` low bits of a number, most significant first. -/
def bitsOf (v : Nat) : Nat → List Bool
  | 0 => []
  | n + 1 => v.testBit n :: bitsOf v n

/-- The code whose value as a binary number is `v` (R180): its digits, first bit most significant;
every code starts with 1. -/
def codeBits (v : Nat) : List Bool := bitsOf v (v.log2 + 1)

/-- `code(u)` of R180, for a code point of the table. -/
def varicodeOf (C : Config F) (u : U32) : List Bool := codeBits (C.varicodeTable.getD u.toNat 0)

/-- `char(v)` of R180: the code point whose code has value `v`. -/
def varicodeChar (C : Config F) (v : Nat) : Option Byte :=
  (C.varicodeTable.findIdx? (· == v)).map (BitVec.ofNat 8)

/-- A bit as a `U8`, 0 or 1 (R54). -/
def bitByte (b : Bool) : Byte := if b then 1 else 0

/-- `code(scalar) ++ GAP` (R181), for a scalar not above 127. -/
def varicodeCell (C : Config F) (scalar : U32) : List Byte :=
  (varicodeOf C scalar ++ [false, false]).map bitByte

/-- R181: nil for a non-ASCII scalar. -/
def varicodeEncodeOne (C : Config F) (scalar : U32) : Option (List Byte) :=
  if 127 < scalar.toNat then none else some (varicodeCell C scalar)

/-- R182: the bits of a text; a character with no code is skipped. -/
def varicodeEncodeRun (C : Config F) (text : List U32) : List Byte :=
  text.flatMap fun c => (varicodeEncodeOne C c).getD []

/-- R186. -/
def varicodeLength (C : Config F) (scalar : U32) : Nat :=
  if 127 < scalar.toNat then 0 else (varicodeOf C scalar).length + 2

/-- R183: the shift register after a bit; it keeps its low `V_ACC_BITS` bits (R11). -/
def varicodeShift (C : Config F) (acc : Nat) (b : Bool) : Nat :=
  (2 * acc + b.toNat) % 2 ^ C.vAccBits

/-- R183: one received bit. -/
def varicodeFeed (C : Config F) (u : Varicode) (b : Bool) : Varicode × Option Byte :=
  if u.acc = 0 ∧ u.ovf = false ∧ b = false then (u, none)
  else
    let ovf := ovfAfterShift C u.ovf u.acc
    let acc := varicodeShift C u.acc b
    if acc % 4 = 0 then (⟨0, false⟩, if ovf then none else varicodeChar C (acc / 4))
    else (⟨acc, ovf⟩, none)

/-- R184: the characters of a list of bits. -/
def varicodeDecodeRun (C : Config F) : List Byte → Varicode → Varicode × List Byte
  | [], u => (u, [])
  | bit :: bits, u =>
    let p := varicodeFeed C u (lowBit bit)
    let q := varicodeDecodeRun C bits p.1
    (q.1, p.2.toList ++ q.2)

/-- R187. -/
def varicodeReset (_ : Varicode) : Performed Varicode := .ok (⟨0, false⟩, .none)

/-- R183. -/
def varicodeDecodeBit (C : Config F) (bit : Byte) (u : Varicode) : Performed Varicode :=
  let p := varicodeFeed C u (lowBit bit)
  .ok (p.1, .optU8 p.2)

/-- R184. -/
def varicodeDecodeBits (C : Config F) (bits : List Byte) (u : Varicode) : Performed Varicode :=
  let p := varicodeDecodeRun C bits u
  .ok (p.1, .listU8 p.2)

/-- R181. -/
def varicodeEncodeChar (C : Config F) (scalar : U32) (u : Varicode) : Performed Varicode :=
  .ok (u, .optListU8 (varicodeEncodeOne C scalar))

/-- R182. -/
def varicodeEncodeString (C : Config F) (text : List U32) (u : Varicode) : Performed Varicode :=
  let out := varicodeEncodeRun C text
  requireShort out.length fun _ => .ok (u, .listU8 out)

/-- R185. -/
def varicodeEncodeWithPreamble (C : Config F) (text : List U32) (idleBits : U32) (u : Varicode) :
    Performed Varicode :=
  let out := varicodeEncodeRun C text
  requireShort (idleBits.toNat + out.length) fun _ =>
    .ok (u, .listU8 (List.replicate idleBits.toNat (bitByte false) ++ out))

/-- R186. -/
def varicodeBitLength (C : Config F) (scalar : U32) (u : Varicode) : Performed Varicode :=
  .ok (u, .u32 (BitVec.ofNat 32 (varicodeLength C scalar)))

/-! ### Meanings -/

/-- VARICODE.RESET (R187). -/
def execVaricodeReset (s : State) : Host.Outcome State Fault Refusal := onVaricode s varicodeReset

/-- VARICODE.DECODE_BIT (R183). -/
def execVaricodeDecodeBit (bit : Byte) (s : State) : Host.Outcome State Fault Refusal :=
  onVaricode s (varicodeDecodeBit machineConfig bit)

/-- VARICODE.DECODE_BITS (R184). -/
def execVaricodeDecodeBits (bits : List Byte) (s : State) : Host.Outcome State Fault Refusal :=
  onVaricode s (varicodeDecodeBits machineConfig bits)

/-- VARICODE.ENCODE_CHAR (R181). -/
def execVaricodeEncodeChar (scalar : U32) (s : State) : Host.Outcome State Fault Refusal :=
  onVaricode s (varicodeEncodeChar machineConfig scalar)

/-- VARICODE.ENCODE_STRING (R182). -/
def execVaricodeEncodeString (text : List U32) (s : State) : Host.Outcome State Fault Refusal :=
  onVaricode s (varicodeEncodeString machineConfig text)

/-- VARICODE.ENCODE_WITH_PREAMBLE (R185). -/
def execVaricodeEncodeWithPreamble (text : List U32) (idleBits : U32) (s : State) :
    Host.Outcome State Fault Refusal :=
  onVaricode s (varicodeEncodeWithPreamble machineConfig text idleBits)

/-- VARICODE.BIT_LENGTH (R186). -/
def execVaricodeBitLength (scalar : U32) (s : State) : Host.Outcome State Fault Refusal :=
  onVaricode s (varicodeBitLength machineConfig scalar)

end Sys2Proof.Machine
end

