-- ==== Sys2Proof/Machine/PskDemodulator.lean ====
section
/-! DEFINITION. PSKDEMOD (spec/46_psk_demod.md). The parts of a sample and of a symbol are functions
of their own, in the order R251 and R255 give them. -/

namespace Sys2Proof.Machine

variable {F : Type}

/-! ### The per-sample path (R251) -/

/-- `mix(x)` of R252: the mixed pair, and the oscillator advanced. -/
def pskMix (C : Config F) (u : PskDemod F) (x : F) : PskDemod F × (F × F) :=
  let N := C.num
  let i := N.mul x (N.cos u.loPhase)
  let q := N.mul (N.neg x) (N.sin u.loPhase)
  ({ u with
      loPhase := N.wrap (N.add u.loPhase (N.div (N.mul N.twoPi u.centerTuned) u.par.fs)) },
    (i, q))

/-- `lpf(i, q)` of R253. -/
def pskLowPass (C : Config F) (u : PskDemod F) (iq : F × F) : PskDemod F :=
  let N := C.num
  { u with
    iF := N.add u.iF (N.mul C.lpfAlpha (N.sub iq.1 u.iF))
    qF := N.add u.qF (N.mul C.lpfAlpha (N.sub iq.2 u.qF)) }

/-- `gates()` of R254. -/
def pskGates (C : Config F) (u : PskDemod F) : PskDemod F :=
  let N := C.num
  let u1 : PskDemod F :=
    { u with
      onI := N.add u.onI u.iF
      onQ := N.add u.onQ u.qF
      sumSq := N.add u.sumSq (N.add (N.mul u.iF u.iF) (N.mul u.qF u.qF)) }
  if u.n < u.par.earlyLength C then
    { u1 with earlyI := N.add u.earlyI u.iF, earlyQ := N.add u.earlyQ u.qF }
  else { u1 with lateI := N.add u.lateI u.iF, lateQ := N.add u.lateQ u.qF }

/-! ### The symbol boundary (R255) -/

/-- The symbol's values `cI`, `cQ`, `p` and `snr` (R255). -/
structure PskSymbol (F : Type) where
  cI : F
  cQ : F
  p : F
  snr : F
  deriving DecidableEq, Repr

/-- R255. -/
def pskValues (C : Config F) (u : PskDemod F) : PskSymbol F :=
  let N := C.num
  let len := N.nat (u.par.symbolLength C)
  let cI := N.div u.onI len
  let cQ := N.div u.onQ len
  let p := N.add (N.mul cI cI) (N.mul cQ cQ)
  let t := N.div u.sumSq len
  ⟨cI, cQ, p, if N.lt N.zero t then N.div p t else N.zero⟩

/-- R258: the flag, a SIGNAL event where it changes, and the strength. -/
def pskDetect (C : Config F) (v : PskSymbol F) (u : PskDemod F) : PskDemod F × List Event :=
  let d := pskDetectedNext C v.p v.snr
  ({ u with detected := d, strength := C.num.clamp v.snr C.num.zero C.num.one },
    if d = u.detected then [] else [.signal d (C.num.toF32 u.centerTuned)])

/-- R260: the modulus of a gate. -/
def gateModulus (C : Config F) (i q : F) : F :=
  C.num.sqrt (C.num.add (C.num.square i) (C.num.square q))

/-- R260. -/
def pskTiming (C : Config F) (u : PskDemod F) : PskDemod F :=
  let N := C.num
  let eM := gateModulus C u.earlyI u.earlyQ
  let lM := gateModulus C u.lateI u.lateQ
  { u with
    timingError :=
      if N.lt N.zero (N.add eM lM) then N.div (N.sub lM eM) (N.add lM eM) else N.zero }

/-- R256. -/
def bpskBits (C : Config F) (u : PskDemod F) (v : PskSymbol F) : List Bool :=
  let N := C.num
  [N.lt (N.add (N.mul v.cI u.prevI) (N.mul v.cQ u.prevQ)) N.zero]

/-- R257: the region of a phase difference in [0, 2π). -/
def qpskRegion (C : Config F) (dp : F) : Nat :=
  let N := C.num
  ((N.floor (N.div (N.add dp (N.div N.pi (N.int 4))) (N.div N.pi (N.int 2)))) % 4).toNat

/-- R86: the dibit of a region. -/
def qpskDibit : Nat → List Bool
  | 0 => [false, false]
  | 1 => [false, true]
  | 2 => [true, true]
  | _ => [true, false]

/-- R257. -/
def qpskBits (C : Config F) (u : PskDemod F) (v : PskSymbol F) : List Bool :=
  let N := C.num
  qpskDibit (qpskRegion C (N.wrap (N.sub (N.atan2 v.cQ v.cI) (N.atan2 u.prevQ u.prevI))))

/-- The bits of the symbol (R256 or R257). -/
def pskBits (C : Config F) (u : PskDemod F) (v : PskSymbol F) : List Bool :=
  match u.par.order with
  | .bpsk => bpskBits C u v
  | .qpsk => qpskBits C u v

/-- R259: every bit feeds the decoder; only the emission of a completed character is gated. -/
def pskDeliver (C : Config F) : List Bool → PskDemod F → PskDemod F × List Event
  | [], u => (u, [])
  | b :: bits, u =>
    let p := varicodeFeed C u.dec b
    let q := pskDeliver C bits { u with dec := p.1 }
    (q.1,
      (match p.2 with
        | some ch =>
          if u.detected && C.num.le u.squelch u.strength then
            [.decode ch (C.num.toF32 u.centerTuned)]
          else []
        | none => []) ++ q.2)

/-- R261. -/
def pskCleanUp (C : Config F) (v : PskSymbol F) (u : PskDemod F) : PskDemod F :=
  let z := C.num.zero
  { u with
    prevI := v.cI
    prevQ := v.cQ
    onI := z
    onQ := z
    earlyI := z
    earlyQ := z
    lateI := z
    lateQ := z
    sumSq := z
    n := 0 }

/-- `symbol()` of R255. -/
def pskSymbol (C : Config F) (u : PskDemod F) : PskDemod F × List Event :=
  let v := pskValues C u
  let d := pskDetect C v u
  let t := pskTiming C d.1
  let e := pskDeliver C (pskBits C t v) t
  (pskCleanUp C v e.1, d.2 ++ e.2)

/-- R251, on a sample in the carrier. -/
def pskSample (C : Config F) (u : PskDemod F) (x : F) : PskDemod F × List Event :=
  let m := pskMix C u x
  let g := pskGates C (pskLowPass C m.1 m.2)
  let u1 : PskDemod F := { g with n := g.n + 1 }
  if u1.n = u1.par.symbolLength C then pskSymbol C u1 else (u1, [])

/-- R262. -/
def pskRun (C : Config F) : List F → PskDemod F → PskDemod F × List Event
  | [], u => (u, [])
  | x :: xs, u =>
    let p := pskSample C u x
    let q := pskRun C xs p.1
    (q.1, p.2 ++ q.2)

/-! ### The operations -/

/-- The registers R263 writes; the settings are kept. -/
def pskCleared (C : Config F) (u : PskDemod F) : PskDemod F :=
  let z := C.num.zero
  { u with
    loPhase := z
    iF := z
    qF := z
    n := 0
    onI := z
    onQ := z
    earlyI := z
    earlyQ := z
    lateI := z
    lateQ := z
    sumSq := z
    prevI := z
    prevQ := z
    detected := false
    strength := z
    timingError := z
    dec := initVaricode }

/-- R263. -/
def pskdemodReset (C : Config F) (u : PskDemod F) : Performed (PskDemod F) :=
  .ok (pskCleared C u, .none)

/-- R251. -/
def pskdemodProcessSample (C : Config F) (sample : F32) (u : PskDemod F) :
    Performed (PskDemod F) :=
  requireFinite sample fun _ =>
    let p := pskSample C u (C.num.ofF32 sample)
    .ok (p.1, .events p.2)

/-- R262. -/
def pskdemodProcessBlock (C : Config F) (samples : List F32) (u : PskDemod F) :
    Performed (PskDemod F) :=
  requireAllFinite samples fun _ =>
    let p := pskRun C (samples.map C.num.ofF32) u
    .ok (p.1, .events p.2)

/-- R264. -/
def pskdemodTune (C : Config F) (centerHz : F32) (u : PskDemod F) : Performed (PskDemod F) :=
  requireFinite centerHz fun _ =>
    let f := C.num.ofF32 centerHz
    if u.par.validCenter C f then .ok (pskCleared C { u with centerTuned := f }, .none)
    else .error .invalidConfiguration

/-- R265. -/
def pskdemodSetSquelch (C : Config F) (level : F32) (u : PskDemod F) : Performed (PskDemod F) :=
  requireFinite level fun _ => .ok ({ u with squelch := C.num.ofF32 level }, .none)

/-- R266. -/
def pskdemodGetStrength (C : Config F) (u : PskDemod F) : Performed (PskDemod F) :=
  .ok (u, .f32 (C.num.toF32 u.strength))

/-- R267. -/
def pskdemodGetDetected (u : PskDemod F) : Performed (PskDemod F) :=
  .ok (u, .u8 (flagByte u.detected))

/-- R268. -/
def pskdemodGetTimingError (C : Config F) (u : PskDemod F) : Performed (PskDemod F) :=
  .ok (u, .f32 (C.num.toF32 u.timingError))

/-! ### Meanings -/

/-- PSKDEMOD.RESET (R263). -/
def execPskdemodReset (s : State) : Host.Outcome State Fault Refusal :=
  onPskDemod s (pskdemodReset machineConfig)

/-- PSKDEMOD.PROCESS_SAMPLE (R251). -/
def execPskdemodProcessSample (sample : F32) (s : State) : Host.Outcome State Fault Refusal :=
  onPskDemod s (pskdemodProcessSample machineConfig sample)

/-- PSKDEMOD.PROCESS_BLOCK (R262). -/
def execPskdemodProcessBlock (samples : List F32) (s : State) :
    Host.Outcome State Fault Refusal :=
  onPskDemod s (pskdemodProcessBlock machineConfig samples)

/-- PSKDEMOD.TUNE (R264). -/
def execPskdemodTune (centerHz : F32) (s : State) : Host.Outcome State Fault Refusal :=
  onPskDemod s (pskdemodTune machineConfig centerHz)

/-- PSKDEMOD.SET_SQUELCH (R265). -/
def execPskdemodSetSquelch (level : F32) (s : State) : Host.Outcome State Fault Refusal :=
  onPskDemod s (pskdemodSetSquelch machineConfig level)

/-- PSKDEMOD.GET_STRENGTH (R266). -/
def execPskdemodGetStrength (s : State) : Host.Outcome State Fault Refusal :=
  onPskDemod s (pskdemodGetStrength machineConfig)

/-- PSKDEMOD.GET_DETECTED (R267). -/
def execPskdemodGetDetected (s : State) : Host.Outcome State Fault Refusal :=
  onPskDemod s pskdemodGetDetected

/-- PSKDEMOD.GET_TIMING_ERROR (R268). -/
def execPskdemodGetTimingError (s : State) : Host.Outcome State Fault Refusal :=
  onPskDemod s (pskdemodGetTimingError machineConfig)

end Sys2Proof.Machine
end

