-- ==== Sys2Proof/Machine/Dispatch.lean ====
section
/-! DEFINITION. The dispatch of an operation to its meaning, one arm per row of R74. -/

namespace Sys2Proof.Machine

/-- What an operation does on the addressed instance. -/
def exec (i : Instr) (s : State) : Host.Outcome State Fault Refusal :=
  match i with
  | .oscReset => Sys2Proof.Machine.execOscReset s
  | .oscNextSample => Sys2Proof.Machine.execOscNextSample s
  | .oscGenerateCount count => Sys2Proof.Machine.execOscGenerateCount count s
  | .oscGenerateDuration seconds => Sys2Proof.Machine.execOscGenerateDuration seconds s
  | .oscSetFrequency hz => Sys2Proof.Machine.execOscSetFrequency hz s
  | .oscSetPhase radians => Sys2Proof.Machine.execOscSetPhase radians s
  | .goertzelReset => Sys2Proof.Machine.execGoertzelReset s
  | .goertzelProcess sample => Sys2Proof.Machine.execGoertzelProcess sample s
  | .goertzelProcessBlock samples => Sys2Proof.Machine.execGoertzelProcessBlock samples s
  | .fskdetReset => Sys2Proof.Machine.execFskdetReset s
  | .fskdetProcess sample => Sys2Proof.Machine.execFskdetProcess sample s
  | .fskdetProcessBlock samples => Sys2Proof.Machine.execFskdetProcessBlock samples s
  | .bpfReset => Sys2Proof.Machine.execBpfReset s
  | .bpfProcess sample => Sys2Proof.Machine.execBpfProcess sample s
  | .bpfProcessBlock samples => Sys2Proof.Machine.execBpfProcessBlock samples s
  | .bpfMag hz => Sys2Proof.Machine.execBpfMag hz s
  | .bpfMagDb hz => Sys2Proof.Machine.execBpfMagDb hz s
  | .cbpfReset => Sys2Proof.Machine.execCbpfReset s
  | .cbpfProcess sample => Sys2Proof.Machine.execCbpfProcess sample s
  | .cbpfProcessBlock samples => Sys2Proof.Machine.execCbpfProcessBlock samples s
  | .cbpfMag hz => Sys2Proof.Machine.execCbpfMag hz s
  | .cbpfMagDb hz => Sys2Proof.Machine.execCbpfMagDb hz s
  | .baudotReset => Sys2Proof.Machine.execBaudotReset s
  | .baudotDecode code => Sys2Proof.Machine.execBaudotDecode code s
  | .baudotDecodeCodes codes => Sys2Proof.Machine.execBaudotDecodeCodes codes s
  | .baudotEncodeChar scalar => Sys2Proof.Machine.execBaudotEncodeChar scalar s
  | .baudotEncodeString text => Sys2Proof.Machine.execBaudotEncodeString text s
  | .baudotEncodeWithPreamble text preambleCount => Sys2Proof.Machine.execBaudotEncodeWithPreamble text preambleCount s
  | .varicodeReset => Sys2Proof.Machine.execVaricodeReset s
  | .varicodeDecodeBit bit => Sys2Proof.Machine.execVaricodeDecodeBit bit s
  | .varicodeDecodeBits bits => Sys2Proof.Machine.execVaricodeDecodeBits bits s
  | .varicodeEncodeChar scalar => Sys2Proof.Machine.execVaricodeEncodeChar scalar s
  | .varicodeEncodeString text => Sys2Proof.Machine.execVaricodeEncodeString text s
  | .varicodeEncodeWithPreamble text idleBits => Sys2Proof.Machine.execVaricodeEncodeWithPreamble text idleBits s
  | .varicodeBitLength scalar => Sys2Proof.Machine.execVaricodeBitLength scalar s
  | .fskdemodReset => Sys2Proof.Machine.execFskdemodReset s
  | .fskdemodProcessSample sample => Sys2Proof.Machine.execFskdemodProcessSample sample s
  | .fskdemodProcessBlock samples => Sys2Proof.Machine.execFskdemodProcessBlock samples s
  | .fskdemodTune markHz => Sys2Proof.Machine.execFskdemodTune markHz s
  | .fskdemodSetSquelch level => Sys2Proof.Machine.execFskdemodSetSquelch level s
  | .fskdemodSetReverse flag => Sys2Proof.Machine.execFskdemodSetReverse flag s
  | .fskdemodGetStrength => Sys2Proof.Machine.execFskdemodGetStrength s
  | .fskdemodGetDetected => Sys2Proof.Machine.execFskdemodGetDetected s
  | .pskdemodReset => Sys2Proof.Machine.execPskdemodReset s
  | .pskdemodProcessSample sample => Sys2Proof.Machine.execPskdemodProcessSample sample s
  | .pskdemodProcessBlock samples => Sys2Proof.Machine.execPskdemodProcessBlock samples s
  | .pskdemodTune centerHz => Sys2Proof.Machine.execPskdemodTune centerHz s
  | .pskdemodSetSquelch level => Sys2Proof.Machine.execPskdemodSetSquelch level s
  | .pskdemodGetStrength => Sys2Proof.Machine.execPskdemodGetStrength s
  | .pskdemodGetDetected => Sys2Proof.Machine.execPskdemodGetDetected s
  | .pskdemodGetTimingError => Sys2Proof.Machine.execPskdemodGetTimingError s

end Sys2Proof.Machine
end

