-- ==== Sys2Proof/Machine/Fetch.lean ====
section
/-! DEFINITION. Taking a command from the command stream of an instance (R51, R70 to R76, R310), and
placing one there. -/

namespace Sys2Proof.Machine

/-- What is found at the front of the bytes presented to an instance. -/
inductive Fetched where
  /-- An operation of the instance's unit kind, and the bytes after it. -/
  | ok (i : Instr) (left : List Byte)
  /-- A command that is refused before it is performed (R76). -/
  | refused (reason : Reason)
  deriving DecidableEq, Repr

/-- Reads a command for an instance of kind `k`. The tests of R310 in their order: the unit number
and the operation number (`ReservedCommand`), then the operands (`Truncated`). Bytes with no `cmd`
byte are a command that ends before it is complete (log 4). -/
def fetch (k : UnitKind) : List Byte → Fetched
  | [] => .refused .truncated
  | cmd :: bytes =>
    if unitNumber cmd = k.number then
      match decodeOperands cmd bytes with
      | .ok i left => .ok i left
      | .reserved _ => .refused .reservedCommand
      | .truncated => .refused .truncated
    else .refused .reservedCommand

/-- The requests that remain when a command of `id` has been taken: the bytes after it are that
instance's next command (R72, log 4). -/
def remaining (id : Nat) (left : List Byte) (rest : List Request) : List Request :=
  if left.isEmpty then rest else .command id left :: rest

/-! ### Placing an instruction where the next step takes it (log 3, log 24) -/

/-- The unit kind of a command byte (R73). -/
def unitKindOf (cmd : Byte) : Option UnitKind :=
  [UnitKind.osc, .goertzel, .fskdet, .bpf, .cbpf, .baudot, .varicode, .fskdemod, .pskdemod].find?
    fun k => k.number == unitNumber cmd

/-- An identifier above every one in use. -/
def freshId (m : List (Nat × Instance F64)) : Nat := m.foldl (fun top e => max top (e.1 + 1)) 0

/-- An instance of kind `k`: the first there is, or a fresh one at a fresh identifier. -/
def State.withUnit (s : State) (k : UnitKind) : State × Nat :=
  match s.instances.find? fun e => e.2.kind == k with
  | some e => (s, e.1)
  | none =>
    let id := freshId s.instances
    ({ s with instances := setInstance id (resetInstance k) s.instances }, id)

/-- The bytes of the command that a word of the opcode table begins: what the decoder takes of them,
or all the word gives where it takes none. -/
def tableCommand (nbits w : Nat) : List Byte :=
  let bytes := tableBytes nbits w
  match decode bytes with
  | .ok _ left => bytes.take (bytes.length - left.length)
  | .reserved _ => bytes.take (nbits / 8)
  | .truncated => bytes.take (nbits / 8)

/-- Presents a command at the front of the requests, to an instance of the unit kind its `cmd` byte
names; a command with no such unit goes to the instance addressed last. -/
def State.presentFirst (s : State) (bytes : List Byte) : State :=
  match bytes.head?.bind unitKindOf with
  | some k =>
    let p := s.withUnit k
    { p.1 with input := .command p.2 bytes :: p.1.input }
  | none => { s with input := .command s.addressed bytes :: s.input }

end Sys2Proof.Machine
end

