-- ==== Sys2Proof/Machine/Step.lean ====
section
/-! DEFINITION. One step: the first request is taken and performed (R58, R330). -/

namespace Sys2Proof.Machine

/-- A command presented to `id` as `bytes`, in a state whose `input` is what follows it. -/
def stepCommand (id : Nat) (bytes : List Byte) (s : State) : Host.Outcome State Fault Refusal :=
  match lookupInstance id s.instances with
  | none => .fault .noInstance
  | some v =>
    match fetch v.kind bytes with
    | .refused reason => .next (State.refuse { s with addressed := id } reason)
    | .ok i left => exec i { s with addressed := id, input := remaining id left s.input }

/-- One step of the machine. With nothing presented nothing changes (R3, R324). -/
def step (s : State) : Host.Outcome State Fault Refusal :=
  match s.input with
  | [] => .next s
  | .instantiate id p :: rest => .next (State.instantiate { s with input := rest } id p)
  | .discard id :: rest => .next (State.discard { s with input := rest } id)
  | .command id bytes :: rest => stepCommand id bytes { s with input := rest }

/-- `s` with the instruction of a word of the opcode table as the next command (log 3, log 24). -/
def State.withFetchWord (s : State) (nbits w : Nat) : State := s.presentFirst (tableCommand nbits w)

end Sys2Proof.Machine
end

