-- ==== Sys2Proof/Machine/ExactReals.lean ====
section
/-! DEFINITION. The exact real numbers as the numerics of R9. The rules are stated over them; the
machine runs in the default realisation, and a claim says which of the two it is about (log 22). Not
part of the step function: `sin`, `atan2`, `floor` and the comparisons of real numbers do not
compute. -/

namespace Sys2Proof

/-- The real number of a binary32 pattern. -/
noncomputable def F32.toReal (x : F32) : ℝ :=
  (if x.toDyadic.neg then -1 else 1) * (x.toDyadic.mant : ℝ) * (2 : ℝ) ^ x.toDyadic.exp

/-- The real number of a finite binary64 pattern. -/
noncomputable def F64.toReal (x : F64) : ℝ :=
  (if x.toDyadic.neg then -1 else 1) * (x.toDyadic.mant : ℝ) * (2 : ℝ) ^ x.toDyadic.exp

end Sys2Proof

namespace Sys2Proof.Machine

/-- The exact reals, with a conversion `F -> F32` left to the claim that names it: R9 says it rounds
to nearest. -/
noncomputable def exactNum (toF32 : ℝ → F32) : Num ℝ where
  ofF32 := F32.toReal
  toF32 := toF32
  ratio := fun p q => (p : ℝ) / (q : ℝ)
  pi := Real.pi
  add := fun a b => a + b
  sub := fun a b => a - b
  mul := fun a b => a * b
  div := fun a b => a / b
  neg := fun a => -a
  abs := fun a => |a|
  sqrt := Real.sqrt
  sin := Real.sin
  cos := Real.cos
  atan2 := fun y x => Complex.arg ⟨x, y⟩
  log10 := fun a => Real.logb 10 a
  floor := fun a => ⌊a⌋
  min := fun a b => min a b
  max := fun a b => max a b
  lt := fun a b => decide (a < b)
  le := fun a b => decide (a ≤ b)
  isFinite := fun _ => true
  phaseOutside := fun _ => 0

/-- The parameters of R6 at the values the spec gives, over the exact reals. -/
noncomputable def exactConfig (toF32 : ℝ → F32) : Config ℝ := defaultConfig (exactNum toF32)

end Sys2Proof.Machine
end

