-- ==== Sys2Proof/Safety.lean ====
section
/-! DEFINITION. The terms claims are stated in: how a command completes or is refused and what else it
leaves unchanged, when a run cannot fault, and the invariant of the machine (the ranges that
spec/10_state.md gives the registers). -/

namespace Sys2Proof

/-- The RESET operation of a unit kind (R331). -/
def UnitKind.resetInstr : UnitKind → Instr
  | .osc => .oscReset
  | .goertzel => .goertzelReset
  | .fskdet => .fskdetReset
  | .bpf => .bpfReset
  | .cbpf => .cbpfReset
  | .baudot => .baudotReset
  | .varicode => .varicodeReset
  | .fskdemod => .fskdemodReset
  | .pskdemod => .pskdemodReset

end Sys2Proof

namespace Sys2Proof.Machine

/-! ### Outcomes of a command, with their frame -/

/-- `t` is `s` in everything but the addressed instance and the output. -/
def OnlyAddressed (s t : State) : Prop :=
  (∀ k, k ≠ s.addressed → lookupInstance k t.instances = lookupInstance k s.instances) ∧
    t.addressed = s.addressed ∧ t.input = s.input

/-- `i` completes in `s`: there is a next state, in which the addressed instance is `v`, the response
`r` has been appended to the output, and nothing else has changed. -/
def CompletesWith (i : Instr) (s : State) (v : Instance F64) (r : Result) : Prop :=
  ∃ t, exec i s = .next t ∧ t.unit? = some v ∧ OnlyAddressed s t ∧
    t.output = s.output ++ [.response s.addressed (.done r)]

/-- `i` is refused in `s` (R301): there is a next state, which differs from `s` in the refusal record
appended to the output and in nothing else. -/
def RefusedWith (i : Instr) (s : State) (reason : Reason) : Prop :=
  exec i s =
    .next { s with output := s.output ++ [.response s.addressed (.refused reason)] }

/-- The request to be taken next addresses an instance that exists. -/
def State.served (s : State) : Bool :=
  match s.input with
  | .command id _ :: _ => (lookupInstance id s.instances).isSome
  | _ => true

/-! ### The ranges of spec/10_state.md -/

variable {F : Type}

/-- The range [0, 2π) of a phase (R24, R38). -/
def phaseInRange (C : Config F) (p : F) : Bool :=
  !C.num.lt p C.num.zero && C.num.lt p C.num.twoPi

/-- A clamped register: within its bounds wherever it holds a number (log 9). -/
def withinBounds (C : Config F) (v lo hi : F) : Bool :=
  !C.num.isFinite v || (C.num.le lo v && C.num.le v hi)

/-- R24. -/
def Osc.inRange (C : Config F) (u : Osc F) : Bool := phaseInRange C u.phase

/-- R25: `n` is 0 .. N−1. -/
def GoertzelAcc.inRange (n : Nat) (g : GoertzelAcc F) : Bool := decide (g.n < n)

/-- R26: both correlators are at the same sample of their block (R133). -/
def Fskdet.inRange (u : Fskdet F) : Bool :=
  u.m.inRange u.par.n && u.s.inRange u.par.n && decide (u.m.n = u.s.n)

/-- R28. -/
def Cbpf.inRange (u : Cbpf F) : Bool := decide (u.sec.length = u.par.n)

/-- R30: `acc` has `V_ACC_BITS` bits, `acc = 0` means that no 1 has been seen, and a gap is never
held. -/
def Varicode.inRange (C : Config F) (u : Varicode) : Bool :=
  decide (u.acc < 2 ^ C.vAccBits) && if u.acc = 0 then !u.ovf else decide (u.acc % 4 ≠ 0)

/-- R36: what the per-character registers hold in each state of the automaton; that `bitIndex` is 4 in
`InStopBits` is log 28. -/
def FskDemod.frameInRange (C : Config F) [DecidableEq F] (u : FskDemod F) : Bool :=
  match u.phase with
  | .waitingForStart =>
    decide (u.tick = 0 ∧ u.bitIndex = 0 ∧ u.code = 0 ∧ u.minConf = C.num.one)
  | .inStartBit =>
    decide ((u.tick = 2 ∨ u.tick = 3) ∧ u.bitIndex = 0 ∧ u.code = 0 ∧ u.minConf = C.num.one)
  | .receivingData =>
    decide (u.tick ≤ 3 ∧ u.bitIndex ≤ 4 ∧
      u.code.toNat < 2 ^ (u.bitIndex + if u.tick = 3 then 1 else 0))
  | .inStopBits => decide (u.tick ≤ 2 ∧ u.bitIndex = 4)

/-- R23, R32 to R36. -/
def FskDemod.inRange (C : Config F) [DecidableEq F] (u : FskDemod F) : Bool :=
  u.par.validMark C u.markTuned &&
    decide (u.bpf.length = C.bpfSections) &&
    withinBounds C u.gain C.gainMin C.gainMax &&
    decide (u.ring.length = u.par.window C) &&
    decide (u.wpos < u.par.window C) &&
    decide (u.sampleCount < u.par.step C) &&
    decide (u.hist.length = C.histLen) &&
    withinBounds C u.noiseFloor C.nfMin C.nfMax &&
    decide (u.afcCount < C.afcPeriod) &&
    withinBounds C u.minConf C.num.zero C.num.one &&
    u.frameInRange C

/-- R23, R38, R40. -/
def PskDemod.inRange (C : Config F) (u : PskDemod F) : Bool :=
  u.par.validCenter C u.centerTuned && phaseInRange C u.loPhase &&
    decide (u.n < u.par.symbolLength C) &&
    withinBounds C u.strength C.num.zero C.num.one && u.dec.inRange C

/-- Every register of an instance is in its range. -/
def Instance.inRange (C : Config F) [DecidableEq F] : Instance F → Bool
  | .osc u => u.inRange C
  | .goertzel u => u.acc.inRange u.par.n
  | .fskdet u => u.inRange
  | .bpf _ => true
  | .cbpf u => u.inRange
  | .baudot _ => true
  | .varicode u => u.inRange C
  | .fskdemod u => u.inRange C
  | .pskdemod u => u.inRange C

/-- The parameters an instance was created from. -/
def Instance.params : Instance F → Params F
  | .osc u => .osc u.par
  | .goertzel u => .goertzel u.par
  | .fskdet u => .fskdet u.par
  | .bpf u => .bpf u.par
  | .cbpf u => .cbpf u.par
  | .baudot _ => .baudot
  | .varicode _ => .varicode
  | .fskdemod u => .fskdemod u.par
  | .pskdemod u => .pskdemod u.par

/-- A well-formed instance: legal parameters (R302) and every register in its range. -/
def Instance.wf (C : Config F) [DecidableEq F] (v : Instance F) : Bool :=
  v.params.valid C && v.inRange C

/-- The invariant of the machine: the map of instances is in canonical form, and every instance is
well formed (logs 9, 11 and 28: clamped registers, phases, `bitIndex`). -/
def State.Inv (s : State) : Bool :=
  risingFrom 0 s.instances && s.instances.all fun e => e.2.wf machineConfig

/-! ### RESET and the settings (R331) -/

/-- `fresh` with the setting registers of `old`: what the column "kept" of R331 names. -/
def Instance.keepSettings : Instance F → Instance F → Instance F
  | .osc old, .osc u => .osc { u with freq := old.freq }
  | .fskdemod old, .fskdemod u =>
    .fskdemod
      { u with
        markTuned := old.markTuned
        squelchManual := old.squelchManual
        reverse := old.reverse }
  | .pskdemod old, .pskdemod u =>
    .pskdemod { u with centerTuned := old.centerTuned, squelch := old.squelch }
  | _, u => u

/-! ### Runs of a part of a unit -/

/-- FSKDEMOD's state machine driven by the correlations of successive steps, with `strength` and the
effective squelch `sq` held (the form of the vectors V-FSM1 to V-FSM7). -/
def fskDrive (C : Config F) (sq : F) : List F → FskDemod F → FskDemod F × List Event
  | [], u => (u, [])
  | c :: cs, u =>
    let p := fskMachine C sq { u with corr := c }
    let q := fskDrive C sq cs p.1
    (q.1, p.2 ++ q.2)

/-- The outputs of one section for a list of samples, unrounded (R148). -/
def sectionRun (C : Config F) (k : BpfCoef F) : List F → BpfMem F → BpfMem F × List F
  | [], b => (b, [])
  | x :: xs, b =>
    let p := bstep C k b x
    let q := sectionRun C k xs p.1
    (q.1, p.2 :: q.2)

/-! ### Ranges that hold over the exact reals only -/

/-- R33, R36, R226: the real-valued registers of FSKDEMOD. -/
def FskDemod.realRanges (C : Config ℝ) (u : FskDemod ℝ) : Prop :=
  C.gainMin ≤ u.gain ∧ u.gain ≤ C.gainMax ∧ -1 ≤ u.corr ∧ u.corr ≤ 1 ∧
    (∀ h ∈ u.hist, 0 ≤ h ∧ h ≤ 1) ∧ u.hist.length = C.histLen ∧
    0 ≤ u.strength ∧ u.strength ≤ 1 ∧ C.nfMin ≤ u.noiseFloor ∧ u.noiseFloor ≤ C.nfMax ∧
    0 ≤ u.minConf ∧ u.minConf ≤ 1

/-- R38 to R40, R255: the gates hold sums of the samples of the present symbol, so that the power of
their sum is bounded by the energy (Cauchy–Schwarz). -/
def PskDemod.realRanges (C : Config ℝ) (u : PskDemod ℝ) : Prop :=
  0 ≤ u.loPhase ∧ u.loPhase < C.num.twoPi ∧
    u.onI = u.earlyI + u.lateI ∧ u.onQ = u.earlyQ + u.lateQ ∧
    0 ≤ u.sumSq ∧ u.onI ^ 2 + u.onQ ^ 2 ≤ u.n * u.sumSq ∧
    0 ≤ u.strength ∧ u.strength ≤ 1 ∧ -1 ≤ u.timingError ∧ u.timingError ≤ 1

end Sys2Proof.Machine
end

