-- ==== Sys2Proof/Certificates/Slice0/Obligations.lean ====
section
/-! DEFINITION. The statements for the provers. A statement over `C : Config F` holds for every
numerics `NUM` of R9 and every value of the parameters of R6; one over `exactConfig` is about the exact
real numbers, with any conversion back to `F32`; one over `machineConfig`, or about `exec` and `step`,
is about the default realisation. -/

open Sys2Proof Sys2Proof.Machine

/-! ### Reset and instantiation -/

/-- R332: the init column, for every unit and all parameters. -/
def Obligations.InitValues : Prop :=
  ∀ (F : Type) (C : Config F),
    let z := C.num.zero
    (∀ p, (initOsc C p).phase = z ∧ (initOsc C p).freq = p.f0) ∧
    (∀ p, (initGoertzel C p).acc = ⟨z, z, 0⟩) ∧
    (∀ p, (initFskdet C p).m = ⟨z, z, 0⟩ ∧ (initFskdet C p).s = ⟨z, z, 0⟩) ∧
    (∀ p, (initBpf C p).mem = ⟨z, z, z, z⟩) ∧
    (∀ p, (initCbpf C p).sec.length = p.n ∧ ∀ b ∈ (initCbpf C p).sec, b = ⟨z, z, z, z⟩) ∧
    initBaudot.figs = false ∧
    initVaricode.acc = 0 ∧ initVaricode.ovf = false ∧
    (∀ p : FskParams F,
      let u := initFsk C p
      u.markTuned = p.mark ∧ u.squelchManual = z ∧ u.reverse = false ∧
      u.bpf.length = C.bpfSections ∧ (∀ b ∈ u.bpf, b = ⟨z, z, z, z⟩) ∧ u.gain = C.num.one ∧
      u.ring.length = (C.num.floor (C.num.div p.fs p.baud)).toNat / 2 ∧ (∀ x ∈ u.ring, x = z) ∧ u.wpos = 0 ∧ u.sampleCount = 0 ∧
      u.corr = z ∧ u.hist.length = C.histLen ∧ (∀ x ∈ u.hist, x = z) ∧ u.strength = z ∧
      u.noiseFloor = C.nfInit ∧ u.detected = false ∧ u.afcCount = 0 ∧ u.afcSmooth = z ∧
      u.afcOffset = z ∧ u.phase = .waitingForStart ∧ u.tick = 0 ∧ u.bitIndex = 0 ∧ u.code = 0 ∧
      u.minConf = C.num.one ∧ u.dec.figs = false) ∧
    (∀ p : PskParams F,
      let u := initPsk C p
      u.centerTuned = p.center ∧ u.squelch = z ∧ u.loPhase = z ∧ u.iF = z ∧ u.qF = z ∧ u.n = 0 ∧
      u.onI = z ∧ u.onQ = z ∧ u.earlyI = z ∧ u.earlyQ = z ∧ u.lateI = z ∧ u.lateQ = z ∧
      u.sumSq = z ∧ u.prevI = z ∧ u.prevQ = z ∧ u.detected = false ∧ u.strength = z ∧
      u.timingError = z ∧ u.dec.acc = 0 ∧ u.dec.ovf = false)

/-- The model's choice of what exists at reset (log 2): an instance of every unit kind, at the
identifier of its unit number, with legal parameters and every register at its init value. -/
def Obligations.ResetInstances : Prop :=
  (∀ k : UnitKind,
    lookupInstance k.number.toNat State.reset.instances =
        some ((resetParams b64 k).fresh machineConfig) ∧
      (resetParams b64 k).valid machineConfig = true) ∧
    State.reset.input = [] ∧ State.reset.output = []

/-- R330, R302 (a): an instantiation whose preconditions hold brings a fresh instance into existence,
in place of one that had the identifier (log 7), and changes nothing else; one with a failing
precondition creates nothing, and the creator is told. The preconditions are those of R302's table. -/
def Obligations.Instantiation : Prop :=
  ∀ (s : State) (id : Nat) (p : Params F64) (rest : List Request),
    s.input = .instantiate id p :: rest →
    let N := b64
    let nyquist (fs : F64) : F64 := N.div fs (N.int 2)
    let band (q : BpfParams F64) : Prop :=
      q.fs.isFinite = true ∧ q.low.isFinite = true ∧ q.high.isFinite = true ∧
        N.lt N.zero q.fs = true ∧ N.lt N.zero q.low = true ∧ N.lt q.low q.high = true ∧
        N.lt q.high (nyquist q.fs) = true
    let legal : Prop :=
      match p with
      | .osc q => q.fs.isFinite = true ∧ q.f0.isFinite = true ∧ N.lt N.zero q.fs = true
      | .goertzel q =>
        q.fs.isFinite = true ∧ q.f.isFinite = true ∧ N.lt N.zero q.fs = true ∧ 1 ≤ q.n
      | .fskdet q =>
        q.fs.isFinite = true ∧ q.mark.isFinite = true ∧ q.space.isFinite = true ∧
          N.lt N.zero q.fs = true ∧ 1 ≤ q.n
      | .bpf q => band q
      | .cbpf q => band q.band ∧ 1 ≤ q.n
      | .baudot => True
      | .varicode => True
      | .fskdemod q =>
        q.fs.isFinite = true ∧ q.baud.isFinite = true ∧ q.mark.isFinite = true ∧
          q.shift.isFinite = true ∧ q.minConfidence.isFinite = true ∧
          N.lt N.zero q.fs = true ∧ N.lt N.zero q.baud = true ∧
          4 ≤ N.floor (N.div q.fs q.baud) ∧
          N.le N.zero q.minConfidence = true ∧ N.le q.minConfidence N.one = true ∧
          N.lt N.zero (N.sub (N.min q.mark (N.add q.mark q.shift)) (N.int 50)) = true ∧
          N.lt (N.add (N.max q.mark (N.add q.mark q.shift)) (N.int 50)) (nyquist q.fs) = true
      | .pskdemod q =>
        q.fs.isFinite = true ∧ q.baud.isFinite = true ∧ q.center.isFinite = true ∧
          N.lt N.zero q.fs = true ∧ N.lt N.zero q.baud = true ∧
          2 ≤ N.floor (N.div q.fs q.baud) ∧
          N.lt N.zero q.center = true ∧ N.lt q.center (nyquist q.fs) = true
    (legal →
      ∃ t, step s = .next t ∧ lookupInstance id t.instances = some (p.fresh machineConfig) ∧
        (∀ k, k ≠ id → lookupInstance k t.instances = lookupInstance k s.instances) ∧
        t.addressed = s.addressed ∧ t.input = rest ∧ t.output = s.output) ∧
    (¬ legal →
      step s = .next { s with input := rest, output := s.output ++ [.rejected id] })

/-- The model's discarding of an instance (log 7), and its idle step: with no request (the request list
is the model's, log 3) nothing changes, as R3 and R324 say of an instance that receives no command. -/
def Obligations.DiscardAndIdle : Prop :=
  (∀ (s : State) (id : Nat) (rest : List Request),
    s.input = .discard id :: rest → s.Inv = true →
    ∃ t, step s = .next t ∧ lookupInstance id t.instances = none ∧
      (∀ k, k ≠ id → lookupInstance k t.instances = lookupInstance k s.instances) ∧
      t.addressed = s.addressed ∧ t.input = rest ∧ t.output = s.output) ∧
  (∀ s : State, s.input = [] → step s = .next s)

/-! ### The command interface -/

/-- A step takes the command at the front of the requests and runs the operation its bytes decode to,
on the instance it addresses; what follows the command's bytes is that instance's next command
(log 4). -/
def Obligations.StepRunsDecoded : Prop :=
  ∀ (s : State) (id : Nat) (v : Instance F64) (i : Instr) (left : List Byte)
    (rest : List Request),
    s.input = .command id (encode i ++ left) :: rest → lookupInstance id s.instances = some v →
    i.wellFormed = true → i.unit = v.kind →
    step s =
      exec i
        { s with
          addressed := id
          input := if left = [] then rest else .command id left :: rest }

/-- R76, R310: a reserved command, and a command for another unit kind, is refused, however its
operands look; a command of the instance's kind that ends before its operands are complete is refused
as truncated. Nothing of any instance changes. What else the message holds is dropped with the command
(log 4). -/
def Obligations.ReservedOrTruncatedRefused : Prop :=
  ∀ (s : State) (id : Nat) (v : Instance F64) (cmd : Byte) (bytes : List Byte)
    (rest : List Request),
    s.input = .command id (cmd :: bytes) :: rest → lookupInstance id s.instances = some v →
    let refused (reason : Reason) : Host.Outcome State Fault Refusal :=
      .next
        { s with
          addressed := id
          input := rest
          output := s.output ++ [.response id (.refused reason)] }
    (decode (cmd :: bytes) = .reserved cmd ∨ unitNumber cmd ≠ v.kind.number →
      step s = refused .reservedCommand) ∧
    (decode (cmd :: bytes) = .truncated → unitNumber cmd = v.kind.number →
      step s = refused .truncated)

/-- R76: exactly the `cmd` values that R74 does not list are reserved. -/
def Obligations.ReservedCommands : Prop :=
  ∀ (cmd : Byte) (bytes : List Byte),
    decode (cmd :: bytes) = .reserved cmd ↔
      ¬ (cmd.toNat ≤ 0x05 ∨ (0x10 ≤ cmd.toNat ∧ cmd.toNat ≤ 0x12) ∨
        (0x20 ≤ cmd.toNat ∧ cmd.toNat ≤ 0x22) ∨ (0x30 ≤ cmd.toNat ∧ cmd.toNat ≤ 0x34) ∨
        (0x40 ≤ cmd.toNat ∧ cmd.toNat ≤ 0x44) ∨ (0x50 ≤ cmd.toNat ∧ cmd.toNat ≤ 0x55) ∨
        (0x60 ≤ cmd.toNat ∧ cmd.toNat ≤ 0x66) ∨ (0x70 ≤ cmd.toNat ∧ cmd.toNat ≤ 0x77) ∨
        (0x80 ≤ cmd.toNat ∧ cmd.toNat ≤ 0x88 ∧ cmd.toNat ≠ 0x85))

/-- Commands of the programs P3, P4 and P5 of spec/95_test_vectors.md decode to their operations. -/
def Obligations.DecodedWords : Prop :=
  decode [0x02, 0x03, 0x00, 0x00, 0x00] = .ok (.oscGenerateCount 3) [] ∧
    decode [0x11, 0xF3, 0x04, 0x35, 0x3F] = .ok (.goertzelProcess ⟨0x3F3504F3⟩) [] ∧
    decode [0x33, 0x00, 0x00, 0x7A, 0x44] = .ok (.bpfMag ⟨0x447A0000⟩) [] ∧
    decode [0x51, 0x1B] = .ok (.baudotDecode 27) [] ∧
    decode [0x62, 0x06, 0, 0, 0, 1, 1, 0, 0, 1, 0] =
      .ok (.varicodeDecodeBits [1, 1, 0, 0, 1, 0]) [] ∧
    decode [0x74, 0x00, 0x00, 0x80, 0x3E] = .ok (.fskdemodSetSquelch ⟨0x3E800000⟩) [] ∧
    decode [0x87] = .ok .pskdemodGetDetected [] ∧
    decode [0x04, 0x00, 0x00] = .truncated ∧ decode [0x85] = .reserved 0x85

/-- Every well-formed operation is decoded from its serialised form, whatever follows it. -/
def Obligations.DecodeEncode : Prop :=
  ∀ (i : Instr) (rest : List Byte), i.wellFormed = true → decode (encode i ++ rest) = .ok i rest

/-- The decoder reads no other bytes as an operation than its serialised form. -/
def Obligations.EncodeDecode : Prop :=
  ∀ (bytes rest : List Byte) (i : Instr), decode bytes = .ok i rest →
    i.wellFormed = true ∧ bytes = encode i ++ rest

/-- A command cut short anywhere is truncated, never another command. -/
def Obligations.PrefixTruncated : Prop :=
  ∀ (i : Instr) (k : Nat), i.wellFormed = true → k < (encode i).length →
    decode ((encode i).take k) = .truncated

/-- R300: a command for an instance that exists always has a next state, and so has every step but
the one that takes a command for an identifier at which nothing exists (log 6). -/
def Obligations.CommandsAreTotal : Prop :=
  (∀ (i : Instr) (s : State), s.unit? ≠ none → ∃ t, exec i s = .next t) ∧
    (∀ s : State, s.served = true → ∃ t, step s = .next t) ∧
    (∀ s : State, s.served = false → step s = .fault .noInstance)

/-! ### What each operation does, with its frame (CompletesWith) -/

/-- R101 to R106, where the command is accepted; the bytes of those whose rule is stated whole. -/
def Obligations.OscOperations : Prop :=
  ∀ (s : State) (u : Osc F64), s.unit? = some (.osc u) →
    let N := b64
    encode .oscReset = [0x00] ∧
    CompletesWith .oscReset s (.osc { u with phase := N.zero }) .none ∧
    CompletesWith .oscNextSample s
      (.osc
        { u with
          phase :=
            N.wrap (N.add u.phase (N.div (N.mul (N.mul (N.int 2) N.pi) u.freq) u.par.fs)) })
      (.f32 (N.toF32 (N.mul machineConfig.oscAmp (N.sin u.phase)))) ∧
    (∀ count, CompletesWith (.oscGenerateCount count) s
      (.osc (oscRun machineConfig count.toNat u).1)
      (.listF32 (oscRun machineConfig count.toNat u).2)) ∧
    (∀ seconds, seconds.isFinite = true →
      let n := durationCount machineConfig (N.ofF32 seconds) u.par.fs
      (N.le (N.ofF32 seconds) N.zero = true → n = 0) ∧
      (N.le (N.ofF32 seconds) N.zero = false →
        n = (N.floor (N.mul (N.ofF32 seconds) u.par.fs)).toNat) ∧
      (n < 2 ^ 32 → CompletesWith (.oscGenerateDuration seconds) s
        (.osc (oscRun machineConfig n u).1) (.listF32 (oscRun machineConfig n u).2))) ∧
    (∀ hz, hz.isFinite = true →
      CompletesWith (.oscSetFrequency hz) s (.osc { u with freq := N.ofF32 hz }) .none) ∧
    (∀ radians, radians.isFinite = true →
      CompletesWith (.oscSetPhase radians) s (.osc { u with phase := N.wrap (N.ofF32 radians) })
        .none)

/-- R120 to R124, where the command is accepted; the bytes of those whose rule is stated whole. -/
def Obligations.GoertzelOperations : Prop :=
  ∀ (s : State) (u : Goertzel F64), s.unit? = some (.goertzel u) →
    let N := b64
    let c := N.mul (N.int 2) (N.cos (N.div (N.mul (N.mul (N.int 2) N.pi) u.par.f) u.par.fs))
    let power (s1 s2 : F64) : F64 :=
      let p := N.mul
        (N.sub (N.add (N.mul s1 s1) (N.mul s2 s2)) (N.mul (N.mul c s1) s2))
        (N.div (N.int 4) (N.nat (u.par.n * u.par.n)))
      if N.lt p N.zero then N.zero else p
    let advance (g : GoertzelAcc F64) (x : F64) : GoertzelAcc F64 :=
      ⟨N.sub (N.add x (N.mul c g.s1)) g.s2, g.s1, g.n + 1⟩
    encode .goertzelReset = [0x10] ∧
    CompletesWith .goertzelReset s (.goertzel { u with acc := ⟨N.zero, N.zero, 0⟩ }) .none ∧
    (∀ sample, sample.isFinite = true →
      let s0 := N.sub (N.add (N.ofF32 sample) (N.mul c u.acc.s1)) u.acc.s2
      (u.acc.n + 1 ≠ u.par.n → CompletesWith (.goertzelProcess sample) s
        (.goertzel { u with acc := ⟨s0, u.acc.s1, u.acc.n + 1⟩ }) (.optF32 none)) ∧
      (u.acc.n + 1 = u.par.n → CompletesWith (.goertzelProcess sample) s
        (.goertzel { u with acc := ⟨N.zero, N.zero, 0⟩ })
        (.optF32 (some (N.toF32 (power s0 u.acc.s1)))))) ∧
    (∀ samples : List F32, samples.length = u.par.n → (∀ x ∈ samples, x.isFinite = true) →
      let g := (samples.map N.ofF32).foldl advance ⟨N.zero, N.zero, 0⟩
      CompletesWith (.goertzelProcessBlock samples) s
        (.goertzel { u with acc := ⟨N.zero, N.zero, 0⟩ }) (.f32 (N.toF32 (power g.s1 g.s2))))

/-- R130 to R133, where the command is accepted, the correlation and the powers spelled out; the bytes
of those whose rule is stated whole. -/
def Obligations.FskdetOperations : Prop :=
  ∀ (s : State) (u : Fskdet F64), s.unit? = some (.fskdet u) →
    let N := b64
    let advance (c : F64) (g : GoertzelAcc F64) (x : F64) : GoertzelAcc F64 :=
      ⟨N.sub (N.add x (N.mul c g.s1)) g.s2, g.s1, g.n + 1⟩
    let power (c : F64) (g : GoertzelAcc F64) : F64 :=
      let p := N.mul
        (N.sub (N.add (N.mul g.s1 g.s1) (N.mul g.s2 g.s2)) (N.mul (N.mul c g.s1) g.s2))
        (N.div (N.int 4) (N.nat (u.par.n * u.par.n)))
      if N.lt p N.zero then N.zero else p
    let corr (pm ps : F64) : F64 :=
      if N.lt (N.add pm ps) (N.ratio 1 10000000000) then N.zero
      else N.div (N.sub pm ps) (N.add pm ps)
    let cM := N.mul (N.int 2) (N.cos (N.div (N.mul (N.mul (N.int 2) N.pi) u.par.mark) u.par.fs))
    let cS := N.mul (N.int 2) (N.cos (N.div (N.mul (N.mul (N.int 2) N.pi) u.par.space) u.par.fs))
    let empty : GoertzelAcc F64 := ⟨N.zero, N.zero, 0⟩
    encode .fskdetReset = [0x20] ∧
    CompletesWith .fskdetReset s (.fskdet { u with m := empty, s := empty }) .none ∧
    (∀ sample, sample.isFinite = true → u.m.n = u.s.n →
      let m' := advance cM u.m (N.ofF32 sample)
      let s' := advance cS u.s (N.ofF32 sample)
      (u.m.n + 1 ≠ u.par.n → CompletesWith (.fskdetProcess sample) s
        (.fskdet { u with m := m', s := s' }) (.optF32 none)) ∧
      (u.m.n + 1 = u.par.n → CompletesWith (.fskdetProcess sample) s
        (.fskdet { u with m := empty, s := empty })
        (.optF32 (some (N.toF32 (corr (power cM m') (power cS s'))))))) ∧
    (∀ samples : List F32, samples.length = u.par.n → (∀ x ∈ samples, x.isFinite = true) →
      let xs := samples.map N.ofF32
      CompletesWith (.fskdetProcessBlock samples) s (.fskdet { u with m := empty, s := empty })
        (.f32 (N.toF32 (corr (power cM (xs.foldl (advance cM) empty))
          (power cS (xs.foldl (advance cS) empty))))))

/-- R140 to R146, where the command is accepted: the five coefficients of R140, the difference equation
of R141, and the magnitude of R145 as the quotient of the moduli of numerator and denominator at
`z1 = cos w − j sin w` and `z2`, the same of `2w`. The order in which the moduli are computed is the
model's choice (logs 15 and 16). -/
def Obligations.BpfOperations : Prop :=
  ∀ (s : State) (u : Bpf F64), s.unit? = some (.bpf u) →
    let N := b64
    let C := machineConfig
    let f0 := N.div (N.add u.par.low u.par.high) (N.int 2)
    let q := N.div f0 (N.sub u.par.high u.par.low)
    let w0 := N.div (N.mul (N.mul (N.int 2) N.pi) f0) u.par.fs
    let al := N.div (N.sin w0) (N.mul (N.int 2) q)
    let a0 := N.add N.one al
    let k : BpfCoef F64 :=
      { b0 := N.div al a0
        b1 := N.zero
        b2 := N.div (N.neg al) a0
        a1 := N.div (N.mul (N.int (-2)) (N.cos w0)) a0
        a2 := N.div (N.sub N.one al) a0 }
    let modulus (p0 p1 p2 w : F64) : F64 :=
      let w2 := N.mul (N.int 2) w
      let re := N.add (N.add p0 (N.mul p1 (N.cos w))) (N.mul p2 (N.cos w2))
      let im := N.add (N.mul p1 (N.neg (N.sin w))) (N.mul p2 (N.neg (N.sin w2)))
      N.sqrt (N.add (N.mul re re) (N.mul im im))
    let response (hz : F32) : F64 :=
      let w := N.div (N.mul (N.mul (N.int 2) N.pi) (N.ofF32 hz)) u.par.fs
      N.div (modulus k.b0 k.b1 k.b2 w) (modulus N.one k.a1 k.a2 w)
    let decibels (m : F64) : F64 :=
      N.mul (N.int 20) (N.log10 (N.max m (N.ratio 1 100000000000000000000)))
    CompletesWith .bpfReset s (.bpf { u with mem := ⟨N.zero, N.zero, N.zero, N.zero⟩ }) .none ∧
    (∀ sample, sample.isFinite = true →
      let x := N.ofF32 sample
      let y := N.sub (N.sub (N.add (N.add (N.mul k.b0 x) (N.mul k.b1 u.mem.x1))
        (N.mul k.b2 u.mem.x2)) (N.mul k.a1 u.mem.y1)) (N.mul k.a2 u.mem.y2)
      CompletesWith (.bpfProcess sample) s (.bpf { u with mem := ⟨x, u.mem.x1, y, u.mem.y1⟩ })
        (.f32 (N.toF32 y))) ∧
    (∀ samples : List F32, (∀ x ∈ samples, x.isFinite = true) →
      let p := filterRun C (bstep C k) (samples.map N.ofF32) u.mem
      CompletesWith (.bpfProcessBlock samples) s (.bpf { u with mem := p.1 }) (.listF32 p.2)) ∧
    (∀ hz, hz.isFinite = true →
      CompletesWith (.bpfMag hz) s (.bpf u) (.f32 (N.toF32 (response hz))) ∧
      CompletesWith (.bpfMagDb hz) s (.bpf u) (.f32 (N.toF32 (decibels (response hz)))))

/-- R149 to R153, where the command is accepted: every section has the coefficients of R140, and the
magnitude is the product of the sections' magnitudes, each the quotient of moduli of R145 (logs 15
and 16). -/
def Obligations.CbpfOperations : Prop :=
  ∀ (s : State) (u : Cbpf F64), s.unit? = some (.cbpf u) →
    let N := b64
    let C := machineConfig
    let band := u.par.band
    let f0 := N.div (N.add band.low band.high) (N.int 2)
    let q := N.div f0 (N.sub band.high band.low)
    let w0 := N.div (N.mul (N.mul (N.int 2) N.pi) f0) band.fs
    let al := N.div (N.sin w0) (N.mul (N.int 2) q)
    let a0 := N.add N.one al
    let k : BpfCoef F64 :=
      { b0 := N.div al a0
        b1 := N.zero
        b2 := N.div (N.neg al) a0
        a1 := N.div (N.mul (N.int (-2)) (N.cos w0)) a0
        a2 := N.div (N.sub N.one al) a0 }
    let modulus (p0 p1 p2 w : F64) : F64 :=
      let w2 := N.mul (N.int 2) w
      let re := N.add (N.add p0 (N.mul p1 (N.cos w))) (N.mul p2 (N.cos w2))
      let im := N.add (N.mul p1 (N.neg (N.sin w))) (N.mul p2 (N.neg (N.sin w2)))
      N.sqrt (N.add (N.mul re re) (N.mul im im))
    let response (hz : F32) : F64 :=
      let w := N.div (N.mul (N.mul (N.int 2) N.pi) (N.ofF32 hz)) band.fs
      N.div (modulus k.b0 k.b1 k.b2 w) (modulus N.one k.a1 k.a2 w)
    let decibels (m : F64) : F64 :=
      N.mul (N.int 20) (N.log10 (N.max m (N.ratio 1 100000000000000000000)))
    let mag (hz : F32) : F64 := (List.range u.par.n).foldl (fun m _ => N.mul m (response hz)) N.one
    CompletesWith .cbpfReset s
      (.cbpf { u with sec := u.sec.map fun _ => ⟨N.zero, N.zero, N.zero, N.zero⟩ }) .none ∧
    (∀ sample, sample.isFinite = true →
      let p := cstep C k u.sec (N.ofF32 sample)
      CompletesWith (.cbpfProcess sample) s (.cbpf { u with sec := p.1 }) (.f32 (N.toF32 p.2))) ∧
    (∀ samples : List F32, (∀ x ∈ samples, x.isFinite = true) →
      let p := filterRun C (cstep C k) (samples.map N.ofF32) u.sec
      CompletesWith (.cbpfProcessBlock samples) s (.cbpf { u with sec := p.1 }) (.listF32 p.2)) ∧
    (∀ hz, hz.isFinite = true →
      CompletesWith (.cbpfMag hz) s (.cbpf u) (.f32 (N.toF32 (mag hz))) ∧
      CompletesWith (.cbpfMagDb hz) s (.cbpf u) (.f32 (N.toF32 (decibels (mag hz)))))

/-- R161 to R166, where the command is accepted; the bytes of those whose rule is stated whole.
DECODE_CODES and ENCODE_STRING are the folds of DECODE and ENCODE_CHAR over the list (R78, R162, R164):
over the empty list, and over one item and then the rest. -/
def Obligations.BaudotOperations : Prop :=
  ∀ (s : State) (u : Baudot), s.unit? = some (.baudot u) →
    let C := machineConfig
    encode .baudotReset = [0x50] ∧ (∀ code, encode (.baudotDecode code) = [0x51, code]) ∧
    CompletesWith .baudotReset s (.baudot ⟨false⟩) .none ∧
    (∀ code : Byte,
      let k := code.toNat % 32
      (k = 31 → CompletesWith (.baudotDecode code) s (.baudot ⟨false⟩) (.optU8 none)) ∧
      (k = 27 → CompletesWith (.baudotDecode code) s (.baudot ⟨true⟩) (.optU8 none)) ∧
      (k ≠ 31 → k ≠ 27 → CompletesWith (.baudotDecode code) s (.baudot u)
        (.optU8 ((if u.figs then C.baudotFigs else C.baudotLtrs).getD k none)))) ∧
    (∀ codes, CompletesWith (.baudotDecodeCodes codes) s
      (.baudot (baudotDecodeRun C codes u).1) (.listU8 (baudotDecodeRun C codes u).2)) ∧
    baudotDecodeRun C [] u = (u, []) ∧
    (∀ (code : Byte) (codes : List Byte),
      let k := code.toNat % 32
      let v : Baudot := if k = 31 then ⟨false⟩ else if k = 27 then ⟨true⟩ else u
      let ch := if k = 31 ∨ k = 27 then none
        else (if u.figs then C.baudotFigs else C.baudotLtrs).getD k none
      let rest := baudotDecodeRun C codes v
      baudotDecodeRun C (code :: codes) u = (rest.1, ch.toList ++ rest.2)) ∧
    (∀ scalar, CompletesWith (.baudotEncodeChar scalar) s
      (.baudot (baudotEncodeOne C u scalar).1)
      (.supportedCodes (baudotLookup C (upper scalar)).isSome (baudotEncodeOne C u scalar).2)) ∧
    baudotEncodeRun C [] u = (u, []) ∧
    (∀ (scalar : U32) (text : List U32),
      let one := baudotEncodeOne C u scalar
      let rest := baudotEncodeRun C text one.1
      baudotEncodeRun C (scalar :: text) u = (rest.1, one.2 ++ rest.2)) ∧
    (∀ text, (baudotEncodeRun C text u).2.length < 2 ^ 32 →
      CompletesWith (.baudotEncodeString text) s (.baudot (baudotEncodeRun C text u).1)
        (.listU8 (baudotEncodeRun C text u).2)) ∧
    (∀ text (n : U32),
      let p := baudotEncodeRun C text (if n = 0 then u else ⟨false⟩)
      n.toNat + p.2.length < 2 ^ 32 →
      CompletesWith (.baudotEncodeWithPreamble text n) s (.baudot p.1)
        (.listU8 (List.replicate n.toNat 31 ++ p.2)))

/-- R163: which codes the encoding of one character gives, and what becomes of the shift. R160: `upper`
folds `a` to `z` alone, and the lookup of a scalar answers, over the tables of R80, the code and the
tables of R81 that hold its upper case, and nothing where neither does. -/
def Obligations.BaudotEncodeCharCases : Prop :=
  ∀ (F : Type) (C : Config F) (u : Baudot) (scalar : U32),
    (upper scalar =
      if 0x61 ≤ scalar.toNat ∧ scalar.toNat ≤ 0x7A then scalar - 0x20 else scalar) ∧
    (∀ N : Num F,
      let found := baudotLookup (defaultConfig N) (upper scalar)
      let inLtrs (k : Nat) : Prop :=
        ∃ c : Byte, (defaultConfig N).baudotLtrs[k]? = some (some c) ∧
          c.toNat = (upper scalar).toNat
      let inFigs (k : Nat) : Prop :=
        ∃ c : Byte, (defaultConfig N).baudotFigs[k]? = some (some c) ∧
          c.toNat = (upper scalar).toNat
      (∀ k, found = some (k, .both) ↔ inLtrs k ∧ inFigs k) ∧
      (∀ k, found = some (k, .letters) ↔ inLtrs k ∧ ∀ j, ¬ inFigs j) ∧
      (∀ k, found = some (k, .figures) ↔ inFigs k ∧ ∀ j, ¬ inLtrs j) ∧
      (found = none ↔ ∀ k, ¬ inLtrs k ∧ ¬ inFigs k)) ∧
    match baudotLookup C (upper scalar) with
    | none => baudotEncodeOne C u scalar = (u, [4])
    | some (k, .both) => baudotEncodeOne C u scalar = (u, [BitVec.ofNat 8 k])
    | some (k, .letters) =>
      baudotEncodeOne C u scalar =
        (⟨false⟩, (if u.figs then [31] else []) ++ [BitVec.ofNat 8 k])
    | some (k, .figures) =>
      baudotEncodeOne C u scalar = (⟨true⟩, (if u.figs then [] else [27]) ++ [BitVec.ofNat 8 k])

/-- R181 to R187, where the command is accepted; the bytes of those whose rule is stated whole.
DECODE_BITS and ENCODE_STRING are the folds of DECODE_BIT and ENCODE_CHAR over the list (R78, R182,
R184), bit 0 of an element being the bit, and a character with no code giving nothing. -/
def Obligations.VaricodeOperations : Prop :=
  ∀ (s : State) (u : Varicode), s.unit? = some (.varicode u) →
    let C := machineConfig
    encode .varicodeReset = [0x60] ∧
    (∀ scalar, encode (.varicodeBitLength scalar) = 0x66 :: bytesOf32 scalar) ∧
    CompletesWith .varicodeReset s (.varicode ⟨0, false⟩) .none ∧
    (∀ bit : Byte, CompletesWith (.varicodeDecodeBit bit) s
      (.varicode (varicodeFeed C u (bit.getLsbD 0)).1)
      (.optU8 (varicodeFeed C u (bit.getLsbD 0)).2)) ∧
    (∀ bits, CompletesWith (.varicodeDecodeBits bits) s
      (.varicode (varicodeDecodeRun C bits u).1) (.listU8 (varicodeDecodeRun C bits u).2)) ∧
    varicodeDecodeRun C [] u = (u, []) ∧
    (∀ (bit : Byte) (bits : List Byte),
      let one := varicodeFeed C u (bit.getLsbD 0)
      let rest := varicodeDecodeRun C bits one.1
      varicodeDecodeRun C (bit :: bits) u = (rest.1, one.2.toList ++ rest.2)) ∧
    (∀ scalar : U32, CompletesWith (.varicodeEncodeChar scalar) s (.varicode u)
      (.optListU8 (if 127 < scalar.toNat then none
        else some ((varicodeOf C scalar).map (fun b => if b then 1 else 0) ++ [0, 0])))) ∧
    varicodeEncodeRun C [] = [] ∧
    (∀ (scalar : U32) (text : List U32),
      varicodeEncodeRun C (scalar :: text) =
        (if 127 < scalar.toNat then []
          else (varicodeOf C scalar).map (fun b => if b then 1 else 0) ++ [0, 0]) ++
        varicodeEncodeRun C text) ∧
    (∀ text, (varicodeEncodeRun C text).length < 2 ^ 32 →
      CompletesWith (.varicodeEncodeString text) s (.varicode u)
        (.listU8 (varicodeEncodeRun C text))) ∧
    (∀ text (n : U32), n.toNat + (varicodeEncodeRun C text).length < 2 ^ 32 →
      CompletesWith (.varicodeEncodeWithPreamble text n) s (.varicode u)
        (.listU8 (List.replicate n.toNat 0 ++ varicodeEncodeRun C text))) ∧
    (∀ scalar : U32, CompletesWith (.varicodeBitLength scalar) s (.varicode u)
      (.u32 (if 127 < scalar.toNat then 0
        else BitVec.ofNat 32 ((varicodeOf C scalar).length + 2))))

/-- R183: one received bit, its cases, for every width `V_ACC_BITS` of the register. -/
def Obligations.VaricodeDecodeBitCases : Prop :=
  ∀ (F : Type) (C : Config F) (u : Varicode) (b : Bool),
    let acc := (2 * u.acc + if b then 1 else 0) % 2 ^ C.vAccBits
    let ovf := u.ovf || u.acc.testBit (C.vAccBits - 1)
    (u.acc = 0 → u.ovf = false → b = false → varicodeFeed C u b = (u, none)) ∧
    (¬ (u.acc = 0 ∧ u.ovf = false ∧ b = false) →
      (acc % 4 ≠ 0 → varicodeFeed C u b = (⟨acc, ovf⟩, none)) ∧
      (acc % 4 = 0 → varicodeFeed C u b =
        (⟨0, false⟩, if ovf then none else varicodeChar C (acc / 4))))

/-- R202, R218 to R224, where the command is accepted; the bytes of those whose rule is stated whole. -/
def Obligations.FskdemodOperations : Prop :=
  ∀ (s : State) (u : FskDemod F64), s.unit? = some (.fskdemod u) →
    let N := b64
    let C := machineConfig
    (∀ flag, encode (.fskdemodSetReverse flag) = [0x75, flag]) ∧
    encode .fskdemodGetStrength = [0x76] ∧ encode .fskdemodGetDetected = [0x77] ∧
    CompletesWith .fskdemodReset s (.fskdemod (fskCleared C u)) .none ∧
    (∀ sample, sample.isFinite = true →
      let p := fskSample C u (N.ofF32 sample)
      CompletesWith (.fskdemodProcessSample sample) s (.fskdemod p.1) (.events p.2)) ∧
    (∀ samples : List F32, (∀ x ∈ samples, x.isFinite = true) →
      let p := fskRun C (samples.map N.ofF32) u
      CompletesWith (.fskdemodProcessBlock samples) s (.fskdemod p.1) (.events p.2)) ∧
    (∀ f, f.isFinite = true →
      let fm := N.ofF32 f
      let fsp := N.add fm u.par.shift
      N.lt N.zero (N.sub (N.min fm fsp) C.bpfMarginHz) = true →
      N.lt (N.add (N.max fm fsp) C.bpfMarginHz) (N.div u.par.fs (N.int 2)) = true →
      CompletesWith (.fskdemodTune f) s
        (.fskdemod (fskCleared C { u with markTuned := N.ofF32 f })) .none) ∧
    (∀ level, level.isFinite = true →
      CompletesWith (.fskdemodSetSquelch level) s
        (.fskdemod { u with squelchManual := N.ofF32 level }) .none) ∧
    (∀ flag : Byte, CompletesWith (.fskdemodSetReverse flag) s
      (.fskdemod { u with reverse := flag.getLsbD 0 }) .none) ∧
    CompletesWith .fskdemodGetStrength s (.fskdemod u) (.f32 (N.toF32 u.strength)) ∧
    CompletesWith .fskdemodGetDetected s (.fskdemod u) (.u8 (if u.detected then 1 else 0))

/-- R202 to R204: every sample is filtered, scaled and stored; one that does not complete a step
changes no other register, and one that does is followed by the step. A step has `spb div 4` samples
and the window `spb div 2`, with `spb = floor(FS / FSK.baud)` (R31, R200; the 4 is `STEPS_PER_BIT`);
the filter has the coefficients of R140 for the band `BPF_MARGIN_HZ` outside the effective mark and
space frequencies (R147, R201). -/
def Obligations.FskSampleBetweenSteps : Prop :=
  ∀ (F : Type) (C : Config F) (u : FskDemod F) (x : F),
    let N := C.num
    let spb := (N.floor (N.div u.par.fs u.par.baud)).toNat
    let fm := N.add u.markTuned u.afcOffset
    let fsp := N.add fm u.par.shift
    let low := N.sub (N.min fm fsp) C.bpfMarginHz
    let high := N.add (N.max fm fsp) C.bpfMarginHz
    let f0 := N.div (N.add low high) (N.int 2)
    let q := N.div f0 (N.sub high low)
    let w0 := N.div (N.mul (N.mul (N.int 2) N.pi) f0) u.par.fs
    let al := N.div (N.sin w0) (N.mul (N.int 2) q)
    let a0 := N.add N.one al
    let k : BpfCoef F :=
      { b0 := N.div al a0
        b1 := N.zero
        b2 := N.div (N.neg al) a0
        a1 := N.div (N.mul (N.int (-2)) (N.cos w0)) a0
        a2 := N.div (N.sub N.one al) a0 }
    let f := cstep C k u.bpf x
    let z := N.mul f.2 u.gain
    let g :=
      if N.lt C.agcTarget (N.abs z) then N.mul u.gain (N.sub N.one C.agcAttack)
      else N.mul u.gain (N.add N.one C.agcDecay)
    let v : FskDemod F :=
      { u with
        bpf := f.1
        gain := N.min C.gainMax (N.max C.gainMin g)
        ring := u.ring.set u.wpos z
        wpos := (u.wpos + 1) % (spb / 2) }
    (u.sampleCount + 1 ≠ spb / C.stepsPerBit →
      fskSample C u x = ({ v with sampleCount := u.sampleCount + 1 }, [])) ∧
    (u.sampleCount + 1 = spb / C.stepsPerBit → fskSample C u x = fskStep C { v with sampleCount := 0 })

/-- R251, R262 to R268, where the command is accepted; the bytes of those whose rule is stated whole. -/
def Obligations.PskdemodOperations : Prop :=
  ∀ (s : State) (u : PskDemod F64), s.unit? = some (.pskdemod u) →
    let N := b64
    let C := machineConfig
    encode .pskdemodGetStrength = [0x86] ∧ encode .pskdemodGetDetected = [0x87] ∧
    encode .pskdemodGetTimingError = [0x88] ∧
    CompletesWith .pskdemodReset s (.pskdemod (pskCleared C u)) .none ∧
    (∀ sample, sample.isFinite = true →
      let p := pskSample C u (N.ofF32 sample)
      CompletesWith (.pskdemodProcessSample sample) s (.pskdemod p.1) (.events p.2)) ∧
    (∀ samples : List F32, (∀ x ∈ samples, x.isFinite = true) →
      let p := pskRun C (samples.map N.ofF32) u
      CompletesWith (.pskdemodProcessBlock samples) s (.pskdemod p.1) (.events p.2)) ∧
    (∀ f, f.isFinite = true → N.lt N.zero (N.ofF32 f) = true →
      N.lt (N.ofF32 f) (N.div u.par.fs (N.int 2)) = true →
      CompletesWith (.pskdemodTune f) s
        (.pskdemod (pskCleared C { u with centerTuned := N.ofF32 f })) .none) ∧
    (∀ level, level.isFinite = true →
      CompletesWith (.pskdemodSetSquelch level) s (.pskdemod { u with squelch := N.ofF32 level })
        .none) ∧
    CompletesWith .pskdemodGetStrength s (.pskdemod u) (.f32 (N.toF32 u.strength)) ∧
    CompletesWith .pskdemodGetDetected s (.pskdemod u) (.u8 (if u.detected then 1 else 0)) ∧
    CompletesWith .pskdemodGetTimingError s (.pskdemod u) (.f32 (N.toF32 u.timingError))

/-- R251 to R254: every sample mixes, filters and adds to the gates; one inside a symbol changes no
other register, and the last of a symbol is followed by the symbol boundary. A symbol has
`S = floor(FS / PSK.baud)` samples, the early gate `S div 2` (R37, R250). -/
def Obligations.PskSampleInsideSymbol : Prop :=
  ∀ (F : Type) (C : Config F) (u : PskDemod F) (x : F),
    let N := C.num
    let i := N.add u.iF (N.mul C.lpfAlpha (N.sub (N.mul x (N.cos u.loPhase)) u.iF))
    let q := N.add u.qF (N.mul C.lpfAlpha (N.sub (N.mul (N.neg x) (N.sin u.loPhase)) u.qF))
    let S := (N.floor (N.div u.par.fs u.par.baud)).toNat
    let early := u.n < S / 2
    let v : PskDemod F :=
      { u with
        loPhase :=
          N.wrap (N.add u.loPhase (N.div (N.mul (N.mul (N.int 2) N.pi) u.centerTuned) u.par.fs))
        iF := i
        qF := q
        n := u.n + 1
        onI := N.add u.onI i
        onQ := N.add u.onQ q
        sumSq := N.add u.sumSq (N.add (N.mul i i) (N.mul q q))
        earlyI := if early then N.add u.earlyI i else u.earlyI
        earlyQ := if early then N.add u.earlyQ q else u.earlyQ
        lateI := if early then u.lateI else N.add u.lateI i
        lateQ := if early then u.lateQ else N.add u.lateQ q }
    (u.n + 1 ≠ S → pskSample C u x = (v, [])) ∧
    (u.n + 1 = S → pskSample C u x = pskSymbol C v)

/-! ### Refusals -/

/-- R303: a NaN or an infinity in a real-valued operand refuses the command; a list operand is refused
whole. (A block of the wrong length is refused for its length first: R310.) -/
def Obligations.NonFiniteRefused : Prop :=
  ∀ s : State,
    (∀ x : F32, x.isFinite = false →
      (∀ u, s.unit? = some (.osc u) →
        RefusedWith (.oscGenerateDuration x) s .nonFinite ∧
        RefusedWith (.oscSetFrequency x) s .nonFinite ∧
        RefusedWith (.oscSetPhase x) s .nonFinite) ∧
      (∀ u, s.unit? = some (.goertzel u) → RefusedWith (.goertzelProcess x) s .nonFinite) ∧
      (∀ u, s.unit? = some (.fskdet u) → RefusedWith (.fskdetProcess x) s .nonFinite) ∧
      (∀ u, s.unit? = some (.bpf u) →
        RefusedWith (.bpfProcess x) s .nonFinite ∧ RefusedWith (.bpfMag x) s .nonFinite ∧
        RefusedWith (.bpfMagDb x) s .nonFinite) ∧
      (∀ u, s.unit? = some (.cbpf u) →
        RefusedWith (.cbpfProcess x) s .nonFinite ∧ RefusedWith (.cbpfMag x) s .nonFinite ∧
        RefusedWith (.cbpfMagDb x) s .nonFinite) ∧
      (∀ u, s.unit? = some (.fskdemod u) →
        RefusedWith (.fskdemodProcessSample x) s .nonFinite ∧
        RefusedWith (.fskdemodTune x) s .nonFinite ∧
        RefusedWith (.fskdemodSetSquelch x) s .nonFinite) ∧
      (∀ u, s.unit? = some (.pskdemod u) →
        RefusedWith (.pskdemodProcessSample x) s .nonFinite ∧
        RefusedWith (.pskdemodTune x) s .nonFinite ∧
        RefusedWith (.pskdemodSetSquelch x) s .nonFinite)) ∧
    (∀ xs : List F32, (∃ x ∈ xs, x.isFinite = false) →
      (∀ u, s.unit? = some (.goertzel u) → xs.length = u.par.n →
        RefusedWith (.goertzelProcessBlock xs) s .nonFinite) ∧
      (∀ u, s.unit? = some (.fskdet u) → xs.length = u.par.n →
        RefusedWith (.fskdetProcessBlock xs) s .nonFinite) ∧
      (∀ u, s.unit? = some (.bpf u) → RefusedWith (.bpfProcessBlock xs) s .nonFinite) ∧
      (∀ u, s.unit? = some (.cbpf u) → RefusedWith (.cbpfProcessBlock xs) s .nonFinite) ∧
      (∀ u, s.unit? = some (.fskdemod u) → RefusedWith (.fskdemodProcessBlock xs) s .nonFinite) ∧
      (∀ u, s.unit? = some (.pskdemod u) → RefusedWith (.pskdemodProcessBlock xs) s .nonFinite))

/-- R305: GOERTZEL.PROCESS_BLOCK and FSKDET.PROCESS_BLOCK take exactly the configured window and
refuse every other length, whatever the elements are (R310); no other block operation has a length
requirement. -/
def Obligations.BlockLengths : Prop :=
  ∀ (s : State) (xs : List F32),
    (∀ u, s.unit? = some (.goertzel u) →
      (xs.length ≠ u.par.n → RefusedWith (.goertzelProcessBlock xs) s .blockSizeMismatch) ∧
      (xs.length = u.par.n → (∀ x ∈ xs, x.isFinite = true) →
        ∃ v r, CompletesWith (.goertzelProcessBlock xs) s v r)) ∧
    (∀ u, s.unit? = some (.fskdet u) →
      (xs.length ≠ u.par.n → RefusedWith (.fskdetProcessBlock xs) s .blockSizeMismatch) ∧
      (xs.length = u.par.n → (∀ x ∈ xs, x.isFinite = true) →
        ∃ v r, CompletesWith (.fskdetProcessBlock xs) s v r)) ∧
    ((∀ x ∈ xs, x.isFinite = true) →
      (∀ u, s.unit? = some (.bpf u) → ∃ v r, CompletesWith (.bpfProcessBlock xs) s v r) ∧
      (∀ u, s.unit? = some (.cbpf u) → ∃ v r, CompletesWith (.cbpfProcessBlock xs) s v r) ∧
      (∀ u, s.unit? = some (.fskdemod u) →
        ∃ v r, CompletesWith (.fskdemodProcessBlock xs) s v r) ∧
      (∀ u, s.unit? = some (.pskdemod u) →
        ∃ v r, CompletesWith (.pskdemodProcessBlock xs) s v r))

/-- R304: a command whose result list would have 2³² or more elements is refused, the shift state of
an encoder as it was. -/
def Obligations.TooLongRefused : Prop :=
  ∀ s : State,
    (∀ u x, s.unit? = some (.osc u) → x.isFinite = true →
      2 ^ 32 ≤ durationCount machineConfig (b64.ofF32 x) u.par.fs →
      RefusedWith (.oscGenerateDuration x) s .tooLong) ∧
    (∀ u text, s.unit? = some (.baudot u) →
      2 ^ 32 ≤ (baudotEncodeRun machineConfig text u).2.length →
      RefusedWith (.baudotEncodeString text) s .tooLong) ∧
    (∀ u text (n : U32), s.unit? = some (.baudot u) →
      2 ^ 32 ≤ n.toNat +
        (baudotEncodeRun machineConfig text (if n = 0 then u else ⟨false⟩)).2.length →
      RefusedWith (.baudotEncodeWithPreamble text n) s .tooLong) ∧
    (∀ u text, s.unit? = some (.varicode u) →
      2 ^ 32 ≤ (varicodeEncodeRun machineConfig text).length →
      RefusedWith (.varicodeEncodeString text) s .tooLong) ∧
    (∀ u text (n : U32), s.unit? = some (.varicode u) →
      2 ^ 32 ≤ n.toNat + (varicodeEncodeRun machineConfig text).length →
      RefusedWith (.varicodeEncodeWithPreamble text n) s .tooLong)

/-- R220, R264, R302 (b): TUNE to a finite frequency outside the legal range is refused. -/
def Obligations.InvalidTuneRefused : Prop :=
  ∀ (s : State) (f : F32), f.isFinite = true →
    let N := b64
    (∀ u, s.unit? = some (.fskdemod u) →
      let x := N.ofF32 f
      let low := N.sub (N.min x (N.add x u.par.shift)) machineConfig.bpfMarginHz
      let high := N.add (N.max x (N.add x u.par.shift)) machineConfig.bpfMarginHz
      (N.lt N.zero low = false ∨ N.lt high (N.div u.par.fs (N.int 2)) = false) →
      RefusedWith (.fskdemodTune f) s .invalidConfiguration) ∧
    (∀ u, s.unit? = some (.pskdemod u) →
      (N.lt N.zero (N.ofF32 f) = false ∨ N.lt (N.ofF32 f) (N.div u.par.fs (N.int 2)) = false) →
      RefusedWith (.pskdemodTune f) s .invalidConfiguration)

/-! ### Instances are independent -/

/-- R43, R288: what a command does to its instance and what it answers depends on that instance
alone. -/
def Obligations.InstancesIsolated : Prop :=
  ∀ (i : Instr) (s t : State), s.addressed = t.addressed → s.unit? = t.unit? → s.unit? ≠ none →
    ∃ s' t' r, exec i s = .next s' ∧ exec i t = .next t' ∧ s'.unit? = t'.unit? ∧
      s'.output = s.output ++ [r] ∧ t'.output = t.output ++ [r]

/-- R60: commands to two different instances may be performed in either order. -/
def Obligations.CommandsCommute : Prop :=
  ∀ (i j : Instr) (s s1 s2 t1 t2 : State) (a b : Nat), s.Inv = true → a ≠ b →
    exec i { s with addressed := a } = .next s1 → exec j { s1 with addressed := b } = .next s2 →
    exec j { s with addressed := b } = .next t1 → exec i { t1 with addressed := a } = .next t2 →
    s2.instances = t2.instances

/-! ### RESET and TUNE -/

/-- R331: RESET of any unit is accepted, leaves the unit as instantiation does but for the setting
registers, and a second RESET changes nothing more. -/
def Obligations.ResetIsFresh : Prop :=
  ∀ (s : State) (v : Instance F64), s.unit? = some v → v.wf machineConfig = true →
    let w := v.keepSettings (v.params.fresh machineConfig)
    CompletesWith v.kind.resetInstr s w .none ∧
      ∀ t : State, t.unit? = some w → CompletesWith v.kind.resetInstr t w .none

/-- R333: an accepted TUNE leaves the instance as a fresh one at the new frequency, but for the
settings that survive (and the parameters it was created with). -/
def Obligations.TuneIsFresh : Prop :=
  ∀ (s : State) (f : F32), f.isFinite = true →
    (∀ u, s.unit? = some (.fskdemod u) → (Instance.fskdemod u).wf machineConfig = true →
      let N := b64
      let fm := N.ofF32 f
      let fsp := N.add fm u.par.shift
      N.lt N.zero (N.sub (N.min fm fsp) machineConfig.bpfMarginHz) = true →
      N.lt (N.add (N.max fm fsp) machineConfig.bpfMarginHz) (N.div u.par.fs (N.int 2)) = true →
      CompletesWith (.fskdemodTune f) s
        (.fskdemod
          { initFsk machineConfig { u.par with mark := b64.ofF32 f } with
            par := u.par
            squelchManual := u.squelchManual
            reverse := u.reverse }) .none) ∧
    (∀ u, s.unit? = some (.pskdemod u) →
      b64.lt b64.zero (b64.ofF32 f) = true →
      b64.lt (b64.ofF32 f) (b64.div u.par.fs (b64.int 2)) = true →
      CompletesWith (.pskdemodTune f) s
        (.pskdemod
          { initPsk machineConfig { u.par with center := b64.ofF32 f } with
            par := u.par
            squelch := u.squelch }) .none)

/-! ### The invariant of the machine -/

/-- The state after reset, with the instances of ResetInstances (which exist at reset is the model's
choice, log 2), meets the invariant of InvKept: the canonical map, the legal parameters and the ranges
named there, with logs 9, 11 and 28. -/
def Obligations.InvAtReset : Prop := State.reset.Inv = true

/-- Every step keeps the canonical map, the legal parameters and these ranges of spec/10_state.md: the
counters, the lengths, the phases (in `[0, 2π)` also where R13's wrap leaves it in rounded arithmetic:
log 11), the frame registers of R36 and the Varicode register as their automata have them, and the
clamped registers, each only where it holds a number (log 9). That `bitIndex` is 4 in `InStopBits` is
the model's choice, R214 and V-FSM1 against the table of R317 (log 28). The correlation, its history,
the strength of FSKDEMOD and `timingError` are not among them: FskRealRangesKept and PskRealRangesKept
have their ranges, over the exact reals. -/
def Obligations.InvKept : Prop := ∀ s t : State, s.Inv = true → step s = .next t → t.Inv = true

/-! ### Blocks and streams -/

/-- R103: two runs of the oscillator are one longer run, the phase carries over, and a run of one
sample is NEXT_SAMPLE. -/
def Obligations.OscRunsJoin : Prop :=
  ∀ (s : State) (u : Osc F64) (a b : U32), s.unit? = some (.osc u) →
    a.toNat + b.toNat < 2 ^ 32 →
    ∃ v w xs ys, CompletesWith (.oscGenerateCount a) s v (.listF32 xs) ∧ xs.length = a.toNat ∧
      (∀ t, t.unit? = some v → CompletesWith (.oscGenerateCount b) t w (.listF32 ys)) ∧
      CompletesWith (.oscGenerateCount (a + b)) s w (.listF32 (xs ++ ys)) ∧
      (a = 1 → ∃ y, xs = [y] ∧ CompletesWith .oscNextSample s v (.f32 y))

/-- R65, R144, R151: a block of a filter may be split anywhere, and a block of one sample is PROCESS
of it. -/
def Obligations.FilterBlocksSplit : Prop :=
  ∀ (s : State) (xs ys : List F32), (∀ x ∈ xs ++ ys, x.isFinite = true) →
    (∀ u, s.unit? = some (.bpf u) → ∃ v w as bs,
      CompletesWith (.bpfProcessBlock xs) s v (.listF32 as) ∧ as.length = xs.length ∧
      (∀ t, t.unit? = some v → CompletesWith (.bpfProcessBlock ys) t w (.listF32 bs)) ∧
      CompletesWith (.bpfProcessBlock (xs ++ ys)) s w (.listF32 (as ++ bs)) ∧
      (∀ x, xs = [x] → ∃ y, as = [y] ∧ CompletesWith (.bpfProcess x) s v (.f32 y))) ∧
    (∀ u, s.unit? = some (.cbpf u) → ∃ v w as bs,
      CompletesWith (.cbpfProcessBlock xs) s v (.listF32 as) ∧ as.length = xs.length ∧
      (∀ t, t.unit? = some v → CompletesWith (.cbpfProcessBlock ys) t w (.listF32 bs)) ∧
      CompletesWith (.cbpfProcessBlock (xs ++ ys)) s w (.listF32 (as ++ bs)) ∧
      (∀ x, xs = [x] → ∃ y, as = [y] ∧ CompletesWith (.cbpfProcess x) s v (.f32 y)))

/-- R218, R262: a block of a demodulator may be split anywhere, and a block of one sample is
PROCESS_SAMPLE of it. -/
def Obligations.DemodulatorBlocksSplit : Prop :=
  ∀ (s : State) (xs ys : List F32), (∀ x ∈ xs ++ ys, x.isFinite = true) →
    (∀ u, s.unit? = some (.fskdemod u) → ∃ v w es fs,
      CompletesWith (.fskdemodProcessBlock xs) s v (.events es) ∧
      (∀ t, t.unit? = some v → CompletesWith (.fskdemodProcessBlock ys) t w (.events fs)) ∧
      CompletesWith (.fskdemodProcessBlock (xs ++ ys)) s w (.events (es ++ fs)) ∧
      (∀ x, xs = [x] → CompletesWith (.fskdemodProcessSample x) s v (.events es))) ∧
    (∀ u, s.unit? = some (.pskdemod u) → ∃ v w es fs,
      CompletesWith (.pskdemodProcessBlock xs) s v (.events es) ∧
      (∀ t, t.unit? = some v → CompletesWith (.pskdemodProcessBlock ys) t w (.events fs)) ∧
      CompletesWith (.pskdemodProcessBlock (xs ++ ys)) s w (.events (es ++ fs)) ∧
      (∀ x, xs = [x] → CompletesWith (.pskdemodProcessSample x) s v (.events es)))

/-- R148: a sample through the cascade goes through the difference equation of each section (R141) in
turn, the output of one being the input of the next, and a cascade of no sections passes it on. R151:
a list through the cascade is the list through the first section and then through the others. -/
def Obligations.CascadeSectionBySection : Prop :=
  ∀ (F : Type) (C : Config F) (k : BpfCoef F) (b : BpfMem F) (bs : List (BpfMem F)) (xs : List F),
    let N := C.num
    (∀ x : F,
      let y := N.sub (N.sub (N.add (N.add (N.mul k.b0 x) (N.mul k.b1 b.x1))
        (N.mul k.b2 b.x2)) (N.mul k.a1 b.y1)) (N.mul k.a2 b.y2)
      bstep C k b x = (⟨x, b.x1, y, b.y1⟩, y) ∧ cstep C k [] x = ([], x) ∧
      cstep C k (b :: bs) x = (⟨x, b.x1, y, b.y1⟩ :: (cstep C k bs y).1, (cstep C k bs y).2)) ∧
    filterRun C (cstep C k) xs [] = ([], xs.map N.toF32) ∧
    filterRun C (cstep C k) xs (b :: bs) =
      let p := sectionRun C k xs b
      let q := filterRun C (cstep C k) p.2 bs
      (p.1 :: q.1, q.2)

/-- R124, R133: `N` successive PROCESS from an empty accumulator answer nil but for the last, which
answers what PROCESS_BLOCK does; the accumulators are then empty. -/
def Obligations.ProcessFillsBlock : Prop :=
  ∀ (F : Type) (C : Config F) (n : Nat) (c : F) (xs : List F) (x : F), xs.length + 1 = n →
    let feed (g : GoertzelAcc F × List (Option F)) (y : F) : GoertzelAcc F × List (Option F) :=
      let p := goertzelFeed C n c g.1 y
      (p.1, g.2 ++ [p.2])
    (xs ++ [x]).foldl feed (emptyAcc C, []) =
      (emptyAcc C,
        List.replicate xs.length none ++ [some (goertzelBlock C n c (xs ++ [x]))])

/-! ### The codes -/

/-- R6: the numeric global parameters at the values of its table, over every numerics; the machine has them
over binary64. R81, R83: no character stands at two Baudot codes, in one table or across the two; the
Varicode has 128 distinct codes of 1 to 10 bits that begin and end with 1 and hold no two consecutive 0
bits. The content of the tables is general knowledge (log 19); the square in `G_SCALE` is taken on the
integer (log 16). The floor of the decibels is the literal of R146 and R153. R180, R85: a code is its
table entry as a binary number, first bit most significant, and a value decodes to the character whose
code it is, to nothing where it is no code. -/
def Obligations.CodeTables : Prop :=
  machineConfig = defaultConfig b64 ∧ ∀ (F : Type) (N : Num F),
    let C := defaultConfig N
    C.num = N ∧ C.oscAmp = N.int 1 ∧ (∀ n, C.gScale n = N.div (N.int 4) (N.nat (n * n))) ∧
    C.powerFloor = N.ratio 1 10000000000 ∧ C.bpfMarginHz = N.int 50 ∧ C.bpfSections = 2 ∧
    C.dbFloor = N.ratio 1 100000000000000000000 ∧ C.vAccBits = 12 ∧
    C.thresh = N.ratio 2 10 ∧ C.confFull = N.ratio 5 10 ∧
    C.agcAttack = N.ratio 1 100 ∧ C.agcDecay = N.ratio 1 10000 ∧
    C.gainMin = N.ratio 1 10 ∧ C.gainMax = N.int 10 ∧ C.agcTarget = N.ratio 5 10 ∧
    C.stepsPerBit = 4 ∧ C.sampleTick = 3 ∧ C.histLen = 8 ∧ C.squelchFactor = N.int 3 ∧
    C.nfInit = N.ratio 1 100 ∧ C.nfDown = N.ratio 1 10 ∧ C.nfUp = N.ratio 1 10000 ∧
    C.nfMin = N.ratio 1 1000 ∧ C.nfMax = N.ratio 25 100 ∧ C.hystOff = N.ratio 5 10 ∧
    C.afcPeriod = 8 ∧
    C.afcOffsets 0 = N.int (-50) ∧ C.afcOffsets 1 = N.int (-25) ∧ C.afcOffsets 2 = N.int 0 ∧
    C.afcOffsets 3 = N.int 25 ∧ C.afcOffsets 4 = N.int 50 ∧
    C.afcAlpha = N.ratio 1 10 ∧ C.afcRetuneHz = N.int 5 ∧ C.lpfAlpha = N.ratio 1 10 ∧
    C.snrMin = N.ratio 1 10 ∧ C.pskPowerFloor = N.ratio 1 1000000 ∧
    (∀ (f g : Bool) (j k : Nat) (c : Byte),
      (baudotTable C f)[j]? = some (some c) → (baudotTable C g)[k]? = some (some c) → j = k) ∧
    C.varicodeTable.length = 128 ∧ C.varicodeTable.Nodup ∧
    (∀ (v : Nat) (ch : Byte),
      varicodeChar C v = some ch ↔ ch.toNat < 128 ∧ C.varicodeTable[ch.toNat]? = some v) ∧
    ∀ u : U32, u.toNat < 128 →
      C.varicodeTable[u.toNat]? =
        some ((varicodeOf C u).foldl (fun v b => 2 * v + if b then 1 else 0) 0) ∧
      1 ≤ (varicodeOf C u).length ∧ (varicodeOf C u).length ≤ 10 ∧
      (varicodeOf C u).head? = some true ∧ (varicodeOf C u).getLast? = some true ∧
      ¬ [false, false] <:+: varicodeOf C u

/-- R167: with encoder and decoder in the Letters shift, decoding an encoded text gives the text back in
upper case, a space in place of every unsupported character, with or without a preamble. -/
def Obligations.BaudotRoundTrip : Prop :=
  ∀ (F : Type) (N : Num F) (text : List U32) (n : Nat),
    let C := defaultConfig N
    let e := baudotEncodeRun C text ⟨false⟩
    baudotDecodeRun C (List.replicate n (codeByte ltrsCode) ++ e.2) ⟨false⟩ =
      (e.1, text.map fun c =>
        if (baudotLookup C (upper c)).isSome then (upper c).setWidth 8 else 0x20)

/-- R188: decoding an encoded text gives its characters 0 to 127 back exactly, with or without idle bits
before it, and leaves the decoder empty; the encoded length is the sum of the bit lengths. -/
def Obligations.VaricodeRoundTrip : Prop :=
  ∀ (F : Type) (N : Num F) (text : List U32) (n : Nat),
    let C := defaultConfig N
    varicodeDecodeRun C (List.replicate n (bitByte false) ++ varicodeEncodeRun C text) ⟨0, false⟩ =
      (⟨0, false⟩, (text.filter fun c => decide (c.toNat < 128)).map fun c => c.setWidth 8) ∧
    (varicodeEncodeRun C text).length = (text.map (varicodeLength C)).sum

/-- R183: whatever the decoder holds, two consecutive 0 bits return it to the empty state, so that a
text after them is decoded whole. -/
def Obligations.VaricodeResynchronises : Prop :=
  ∀ (F : Type) (N : Num F) (u : Varicode) (text : List U32),
    let C := defaultConfig N
    (∀ c ∈ text, c.toNat < 128) →
    ∃ first : Option Byte,
      varicodeDecodeRun C (bitByte false :: bitByte false :: varicodeEncodeRun C text) u =
        (⟨0, false⟩, first.toList ++ text.map fun c => c.setWidth 8)

/-! ### FSKDEMOD -/

/-- R212 to R217, R345: a frame whose start, data and stop correlations are clean is received 25 steps
after its start is detected, as the code whose bit `b` is the sign of the correlation at 75 % of data
bit `b`; it passes the gate and reaches the Baudot decoder, and the automaton is back in
`WaitingForStart`. Over the exact reals. -/
def Obligations.FskFrameReceived : Prop :=
  ∀ (toF32 : ℝ → F32) (u : FskDemod ℝ) (sq : ℝ) (c : Fin 26 → ℝ),
    let C := exactConfig toF32
    u.phase = .waitingForStart → u.bitIndex = 0 → u.code = 0 → u.minConf = 1 →
    c 0 < -0.2 → c 1 < 0 → 0.2 < c 25 → sq ≤ u.strength → u.par.minConfidence ≤ 1 →
    (∀ b : Fin 5, u.par.minConfidence ≤ fskConfidence C (c ⟨5 + 4 * b.val, by omega⟩)) →
    ∃ code : BitVec 5,
      (∀ b : Fin 5, code.getLsbD b.val = decide (0 < c ⟨5 + 4 * b.val, by omega⟩)) ∧
      fskDrive C sq (List.ofFn c) u =
        ({ u with
            corr := c 25
            tick := 0
            minConf := 1
            dec := (baudotDecodeCode C u.dec code.toNat).1 },
          ((baudotDecodeCode C u.dec code.toNat).2.toList.map fun ch =>
            Event.decode ch (toF32 u.markTuned)))

/-- R212: the automaton waits while the correlation is at or above `−THRESH`, and else enters the start
bit at tick 2. R213: a start bit whose correlation is not negative at 75 % is a false start; one that
is negative there ends at the next step. R214, R217: in a data bit the tick is counted; at 75 % the
sign of the correlation is the bit of the code at `bitIndex`, and the confidence of the frame becomes
the smaller of itself and `(|corr| − THRESH) / (CONF_FULL − THRESH)` clamped to [0, 1]; at its fourth
step the next bit begins, or after the fifth the stop bit, `bitIndex` staying at 4 as R214 and V-FSM1
have it, against the table of R317 (log 28). R215, R216: the stop bit counts the tick up to 75 %, and
a frame that fails its stop bit or a gate there emits nothing and does not reach the Baudot decoder,
and any other is decoded as R161 has it and its character, if it has one, emitted. -/
def Obligations.FskFrameDropped : Prop :=
  ∀ (F : Type) (C : Config F) (sq : F) (u : FskDemod F),
    let N := C.num
    let waiting : FskDemod F :=
      { u with phase := .waitingForStart, tick := 0, bitIndex := 0, code := 0, minConf := N.one }
    let confidence : F :=
      N.min N.one (N.max N.zero (N.div (N.sub (N.abs u.corr) C.thresh) (N.sub C.confFull C.thresh)))
    (u.phase = .waitingForStart →
      (N.lt u.corr (N.neg C.thresh) = false → fskMachine C sq u = (u, [])) ∧
      (N.lt u.corr (N.neg C.thresh) = true →
        fskMachine C sq u = ({ u with phase := .inStartBit, tick := 2 }, []))) ∧
    (u.phase = .inStartBit →
      (u.tick + 1 = C.sampleTick →
        (N.lt u.corr N.zero = false → fskMachine C sq u = (waiting, [])) ∧
        (N.lt u.corr N.zero = true → fskMachine C sq u = ({ u with tick := u.tick + 1 }, []))) ∧
      (u.tick + 1 ≠ C.sampleTick →
        fskMachine C sq u = ({ waiting with phase := .receivingData }, []))) ∧
    (u.phase = .receivingData →
      (u.tick + 1 = C.sampleTick →
        fskMachine C sq u =
          ({ u with
              tick := u.tick + 1
              code := u.code ||| (if N.lt N.zero u.corr then (1 : BitVec 5) <<< u.bitIndex else 0)
              minConf := N.min u.minConf confidence }, [])) ∧
      (u.tick + 1 ≠ C.sampleTick → u.tick + 1 = C.stepsPerBit →
        (u.bitIndex = 4 → fskMachine C sq u = ({ u with tick := 0, phase := .inStopBits }, [])) ∧
        (u.bitIndex ≠ 4 →
          fskMachine C sq u = ({ u with tick := 0, bitIndex := u.bitIndex + 1 }, []))) ∧
      (u.tick + 1 ≠ C.sampleTick → u.tick + 1 ≠ C.stepsPerBit →
        fskMachine C sq u = ({ u with tick := u.tick + 1 }, []))) ∧
    (u.phase = .inStopBits → u.tick + 1 ≠ C.sampleTick →
      fskMachine C sq u = ({ u with tick := u.tick + 1 }, [])) ∧
    (u.phase = .inStopBits → u.tick + 1 = C.sampleTick →
      (N.lt C.thresh u.corr = false ∨ N.le sq u.strength = false ∨
        N.le u.par.minConfidence u.minConf = false) →
      fskMachine C sq u = (waiting, [])) ∧
    (u.phase = .inStopBits → u.tick + 1 = C.sampleTick →
      N.lt C.thresh u.corr = true → N.le sq u.strength = true →
      N.le u.par.minConfidence u.minConf = true →
      let k := u.code.toNat
      let ch := if k = 31 ∨ k = 27 then none
        else (if u.dec.figs then C.baudotFigs else C.baudotLtrs).getD k none
      fskMachine C sq u =
        ({ waiting with dec := if k = 31 then ⟨false⟩ else if k = 27 then ⟨true⟩ else u.dec },
          ch.toList.map fun c => Event.decode c (N.toF32 u.markTuned)))

/-- R225, R306, R308: a sample emits at most one SIGNAL, exactly when `detected` changes, and at most
one DECODE, after it; both carry the tuned mark frequency (R307), and the character stands in one of
the code tables (R226). -/
def Obligations.FskEvents : Prop :=
  ∀ (F : Type) (C : Config F) (u : FskDemod F) (x : F),
    let p := fskSample C u x
    ∃ ch : Option Byte,
      p.2 =
        (if p.1.detected = u.detected then []
          else [Event.signal p.1.detected (C.num.toF32 u.markTuned)]) ++
        ch.toList.map (fun k => Event.decode k (C.num.toF32 u.markTuned)) ∧
      ∀ k ∈ ch, (some k ∈ C.baudotLtrs ∨ some k ∈ C.baudotFigs) ∧
        C.num.le (fskSquelch C p.1) p.1.strength = true ∧
        C.num.le u.par.minConfidence u.minConf = true ∧ u.phase = .inStopBits ∧
        p.1.phase = .waitingForStart

/-- R23, R211, R340: samples never write a setting or a parameter, and the effective frequency moves
only from `WaitingForStart`. -/
def Obligations.FskSettingsKept : Prop :=
  ∀ (F : Type) (C : Config F) (u : FskDemod F),
    (∀ xs : List F,
      let v := (fskRun C xs u).1
      v.par = u.par ∧ v.markTuned = u.markTuned ∧ v.squelchManual = u.squelchManual ∧
        v.reverse = u.reverse) ∧
    (∀ x : F, (fskSample C u x).1.afcOffset ≠ u.afcOffset → u.phase = .waitingForStart)

/-- R205 to R211: what a step measures, the AFC scan with its smoothing, the retune (taken, dropped or
not due), and the automaton, which runs last on the registers so written. The scale of a power is
applied as R121 does it (log 14). -/
def Obligations.FskStepMeasures : Prop :=
  ∀ (F : Type) (C : Config F) (u : FskDemod F),
    let N := C.num
    let win := u.ring.drop u.wpos ++ u.ring.take u.wpos
    let power (f : F) : F :=
      let c := N.mul (N.int 2) (N.cos (N.div (N.mul (N.mul (N.int 2) N.pi) f) u.par.fs))
      let g := win.foldl
        (fun (g : GoertzelAcc F) x => ⟨N.sub (N.add x (N.mul c g.s1)) g.s2, g.s1, g.n + 1⟩)
        ⟨N.zero, N.zero, 0⟩
      let p := N.mul
        (N.sub (N.add (N.mul g.s1 g.s1) (N.mul g.s2 g.s2)) (N.mul (N.mul c g.s1) g.s2))
        (C.gScale win.length)
      if N.lt p N.zero then N.zero else p
    let fm := N.add u.markTuned u.afcOffset
    let fsp := N.add fm u.par.shift
    let mP := power fm
    let sP := power fsp
    let c :=
      if N.lt (N.add mP sP) C.powerFloor then N.zero else N.div (N.sub mP sP) (N.add mP sP)
    let hist := u.hist.drop 1 ++ [N.min N.one (N.div (N.add mP sP) (N.mul C.agcTarget C.agcTarget))]
    let strength := N.div
      (hist.zipIdx.foldl (fun sum h => N.add sum (N.mul (N.nat (h.2 + 1)) h.1)) N.zero)
      (N.nat (C.histLen * (C.histLen + 1) / 2))
    let rate := if N.lt strength u.noiseFloor then C.nfDown else C.nfUp
    let noiseFloor := N.min C.nfMax (N.max C.nfMin
      (N.add u.noiseFloor (N.mul rate (N.sub strength u.noiseFloor))))
    let sq :=
      if N.lt N.zero u.squelchManual then u.squelchManual else N.mul C.squelchFactor noiseFloor
    let detected :=
      if u.detected = false ∧ N.le sq strength = true then true
      else if u.detected = true ∧ N.lt strength (N.mul C.hystOff sq) = true then false
      else u.detected
    let sep (j : Fin 5) : F :=
      N.abs (N.sub (power (N.add fm (C.afcOffsets j))) (power (N.add fsp (C.afcOffsets j))))
    let best :=
      (([0, 1, 3, 4] : List (Fin 5)).foldl
        (fun b j => if N.lt b.2 (sep j) then (C.afcOffsets j, sep j) else b) (N.zero, sep 2)).1
    let smooth :=
      if u.afcCount + 1 = C.afcPeriod ∧ u.par.afcEnabled = true ∧ detected = true then
        N.add u.afcSmooth (N.mul C.afcAlpha (N.sub best u.afcSmooth))
      else u.afcSmooth
    let f := N.add fm smooth
    let due := N.lt C.afcRetuneHz (N.abs smooth) && decide (u.phase = .waitingForStart)
    let legal :=
      N.lt N.zero (N.sub (N.min f (N.add f u.par.shift)) C.bpfMarginHz) &&
        N.lt (N.add (N.max f (N.add f u.par.shift)) C.bpfMarginHz) (N.div u.par.fs (N.int 2))
    let r : FskDemod F :=
      { u with
        corr := if u.reverse then N.neg c else c
        hist := hist
        strength := strength
        noiseFloor := noiseFloor
        detected := detected
        afcCount := if u.afcCount + 1 = C.afcPeriod then 0 else u.afcCount + 1
        afcSmooth := if due then N.zero else smooth
        afcOffset := if due && legal then N.add u.afcOffset smooth else u.afcOffset
        bpf :=
          if due && legal then List.replicate C.bpfSections ⟨N.zero, N.zero, N.zero, N.zero⟩
          else u.bpf }
    let m := fskMachine C sq r
    fskStep C u =
      (m.1,
        (if detected = u.detected then [] else [Event.signal detected (N.toF32 u.markTuned)]) ++
          m.2) ∧
    m.1 =
      { r with
        phase := m.1.phase
        tick := m.1.tick
        bitIndex := m.1.bitIndex
        code := m.1.code
        minConf := m.1.minConf
        dec := m.1.dec }

/-- R203, R206 to R208, R217, R226: over the exact reals every sample keeps the ranges of R32 to
R36. -/
def Obligations.FskRealRangesKept : Prop :=
  ∀ (toF32 : ℝ → F32) (u : FskDemod ℝ) (x : ℝ), u.realRanges (exactConfig toF32) →
    (fskSample (exactConfig toF32) u x).1.realRanges (exactConfig toF32)

/-! ### PSKDEMOD -/

/-- R255 to R261: the registers a symbol boundary leaves and the events it emits. Every decided bit is
fed to the Varicode decoder, detected or not; the characters it completes are emitted exactly where
the gate passes. The sums are divided by the symbol length `S = floor(FS / PSK.baud)` (R37, R250). -/
def Obligations.PskSymbolBoundary : Prop :=
  ∀ (F : Type) (C : Config F) (u : PskDemod F),
    let N := C.num
    let len := N.nat (N.floor (N.div u.par.fs u.par.baud)).toNat
    let cI := N.div u.onI len
    let cQ := N.div u.onQ len
    let p := N.add (N.mul cI cI) (N.mul cQ cQ)
    let e := N.div u.sumSq len
    let snr := if N.lt N.zero e then N.div p e else N.zero
    let eM := N.sqrt (N.add (N.mul u.earlyI u.earlyI) (N.mul u.earlyQ u.earlyQ))
    let lM := N.sqrt (N.add (N.mul u.lateI u.lateI) (N.mul u.lateQ u.lateQ))
    let dp := N.wrap (N.sub (N.atan2 cQ cI) (N.atan2 u.prevQ u.prevI))
    let region := N.floor (N.div (N.add dp (N.div N.pi (N.int 4))) (N.div N.pi (N.int 2))) % 4
    let bits :=
      match u.par.order with
      | .bpsk => [N.lt (N.add (N.mul cI u.prevI) (N.mul cQ u.prevQ)) N.zero]
      | .qpsk =>
        if region = 0 then [false, false] else if region = 1 then [false, true]
        else if region = 2 then [true, true] else [true, false]
    let d := varicodeDecodeRun C (bits.map bitByte) u.dec
    let t := (pskSymbol C u).1
    t.dec = d.1 ∧
    (pskSymbol C u).2 =
      (if t.detected = u.detected then []
        else [Event.signal t.detected (N.toF32 u.centerTuned)]) ++
      (if t.detected && N.le u.squelch t.strength then
        d.2.map (fun ch => Event.decode ch (N.toF32 u.centerTuned))
      else []) ∧
    t.prevI = cI ∧ t.prevQ = cQ ∧ t.n = 0 ∧
    t.detected = (N.lt C.pskPowerFloor p && N.lt C.snrMin snr) ∧
    t.strength = N.min N.one (N.max N.zero snr) ∧
    t.timingError =
      (if N.lt N.zero (N.add eM lM) then N.div (N.sub lM eM) (N.add lM eM) else N.zero) ∧
    t.onI = N.zero ∧ t.onQ = N.zero ∧ t.earlyI = N.zero ∧ t.earlyQ = N.zero ∧ t.lateI = N.zero ∧
    t.lateQ = N.zero ∧ t.sumSq = N.zero ∧
    t.iF = u.iF ∧ t.qF = u.qF ∧ t.loPhase = u.loPhase ∧ t.centerTuned = u.centerTuned ∧
    t.squelch = u.squelch ∧ t.par = u.par

/-- R225 (as R259 has it for PSK), R306 to R308: a sample emits at most one SIGNAL, exactly when
`detected` changes, and at most one DECODE, after it and only past the gate. The bits of a symbol, one
for BPSK and two for QPSK, are all fed to the decoder, and a character they complete is emitted where
the gate passes. (A shift register of no bits could complete two characters in one symbol.) -/
def Obligations.PskEvents : Prop :=
  ∀ (F : Type) (C : Config F) (u : PskDemod F) (x : F), 0 < C.vAccBits →
    let p := pskSample C u x
    let S := (C.num.floor (C.num.div u.par.fs u.par.baud)).toNat
    ∃ (ch : Option Byte) (bits : List Bool),
      p.2 =
        (if p.1.detected = u.detected then []
          else [Event.signal p.1.detected (C.num.toF32 u.centerTuned)]) ++
        ch.toList.map (fun k => Event.decode k (C.num.toF32 u.centerTuned)) ∧
      (∀ k ∈ ch, p.1.detected = true ∧ C.num.le u.squelch p.1.strength = true ∧
        u.n + 1 = S) ∧
      bits.length =
        (if u.n + 1 = S then
          match u.par.order with
          | .bpsk => 1
          | .qpsk => 2
        else 0) ∧
      let d := varicodeDecodeRun C (bits.map bitByte) u.dec
      p.1.dec = d.1 ∧
        ch.toList = if p.1.detected && C.num.le u.squelch p.1.strength then d.2 else []

/-- R260, R269: the timing error is never fed back: whatever the register holds, samples have the same
events and leave everything else the same. -/
def Obligations.TimingErrorNotFedBack : Prop :=
  ∀ (F : Type) (C : Config F) (u : PskDemod F) (e : F) (xs : List F),
    let a := pskRun C xs u
    let b := pskRun C xs { u with timingError := e }
    a.2 = b.2 ∧ a.1 = { b.1 with timingError := a.1.timingError }

/-- R256: the sign of the dot product decides a BPSK bit; a dot product of 0 gives 0. R257: a QPSK dibit
is that of the region of the phase difference to the previous symbol, normalised to [0, 2π); the
regions are 90° wide and centred on the multiples of 90°, a boundary belonging to the region above it.
Over the exact reals. -/
def Obligations.PskDecisions : Prop :=
  ∀ (toF32 : ℝ → F32),
    let C := exactConfig toF32
    (∀ (u : PskDemod ℝ) (v : PskSymbol ℝ), u.par.order = .bpsk →
      pskBits C u v = [decide (v.cI * u.prevI + v.cQ * u.prevQ < 0)]) ∧
    (∀ (u : PskDemod ℝ) (v : PskSymbol ℝ), u.par.order = .qpsk →
      let d := Complex.arg ⟨v.cI, v.cQ⟩ - Complex.arg ⟨u.prevI, u.prevQ⟩
      let dp := d - 2 * Real.pi * ⌊d / (2 * Real.pi)⌋
      0 ≤ dp ∧ dp < 2 * Real.pi ∧ pskBits C u v = qpskDibit (qpskRegion C dp)) ∧
    (∀ dp : ℝ, 0 ≤ dp → dp < 2 * Real.pi →
      let r := qpskRegion C dp
      (r = 0 ↔ dp < Real.pi / 4 ∨ 7 * Real.pi / 4 ≤ dp) ∧
      (r = 1 ↔ Real.pi / 4 ≤ dp ∧ dp < 3 * Real.pi / 4) ∧
      (r = 2 ↔ 3 * Real.pi / 4 ≤ dp ∧ dp < 5 * Real.pi / 4) ∧
      (r = 3 ↔ 5 * Real.pi / 4 ≤ dp ∧ dp < 7 * Real.pi / 4)) ∧
    qpskDibit 0 = [false, false] ∧ qpskDibit 1 = [false, true] ∧ qpskDibit 2 = [true, true] ∧
      qpskDibit 3 = [true, false]

/-- R38, R40, R254, R255: over the exact reals every sample keeps the ranges, the gates being partial
sums of one another, and the symbol power never exceeds the symbol energy (Cauchy–Schwarz). -/
def Obligations.PskRealRangesKept : Prop :=
  ∀ (toF32 : ℝ → F32) (u : PskDemod ℝ) (x : ℝ), u.realRanges (exactConfig toF32) →
    (pskSample (exactConfig toF32) u x).1.realRanges (exactConfig toF32)

/-! ### The arithmetic, over the exact reals -/

/-- R102, R345: sample `k` of a run is `OSC_AMP × sin(phase0 + k × dphi)`. -/
def Obligations.OscSamples : Prop :=
  ∀ (toF32 : ℝ → F32) (u : Osc ℝ) (n : Nat),
    (oscRun (exactConfig toF32) n u).2 =
      (List.range n).map fun k : Nat =>
        toF32 (Real.sin (u.phase + (k : ℝ) * (2 * Real.pi * u.freq / u.par.fs)))

/-- R121: the parenthesised term of the power is the squared magnitude of the discrete-time Fourier
sum of the block at the target frequency. -/
def Obligations.GoertzelIsFourierSum : Prop :=
  ∀ (toF32 : ℝ → F32) (fs f : ℝ) (xs : List ℝ),
    let C := exactConfig toF32
    let c := goertzelCoef C fs f
    let w := 2 * Real.pi * f / fs
    goertzelTerm C c (xs.foldl (gstep C c) (emptyAcc C)) =
      (∑ i : Fin xs.length, xs[i] * Real.cos (w * i)) ^ 2 +
        (∑ i : Fin xs.length, xs[i] * Real.sin (w * i)) ^ 2

/-- R140, R154: for every legal band the section has gain exactly 1 at the centre frequency, gain 0 at
0 Hz, and its poles are strictly inside the unit circle. -/
def Obligations.BandpassProperties : Prop :=
  ∀ (toF32 : ℝ → F32) (fs low high : ℝ), 0 < low → low < high → high < fs / 2 →
    let C := exactConfig toF32
    let k := bpfCoef C fs low high
    bpfMagnitude C fs k ((low + high) / 2) = 1 ∧ bpfMagnitude C fs k 0 = 0 ∧
      k.b0 + k.b1 + k.b2 = 0 ∧ |k.a2| < 1 ∧ |k.a1| < 1 + k.a2

/-! ### The arithmetic of the default realisation -/

/-- R9: the conversion of a finite binary32 value to the machine's carrier is exact: it gives a finite
number of the same value, which converts back to it. That a zero keeps its sign on the way is the
model's choice (log 13). -/
def Obligations.SampleConversionExact : Prop :=
  ∀ x : F32, x.isFinite = true →
    (b64.ofF32 x).isFinite = true ∧ (b64.ofF32 x).toReal = x.toReal ∧ b64.toF32 (b64.ofF32 x) = x

/-- R142: after RESET every zero sample, of either sign and however many come, gives exactly zero,
wherever the filter's coefficients are numbers. That the answer to a first `+0` is the pattern `+0`,
and not `−0`, is the model's choice of the sign of zeros (log 13). -/
def Obligations.ZeroAfterReset : Prop :=
  ∀ (s t : State) (u : Bpf F64), s.unit? = some (.bpf u) →
    (let k := u.par.coef machineConfig
     k.b0.isFinite = true ∧ k.b2.isFinite = true ∧ k.a1.isFinite = true ∧ k.a2.isFinite = true) →
    exec .bpfReset s = .next t →
    (∃ v, CompletesWith (.bpfProcess ⟨0⟩) t (.bpf v) (.f32 ⟨0⟩) ∧ v = { u with mem := v.mem } ∧
      v.mem = ⟨b64.zero, b64.zero, b64.zero, b64.zero⟩) ∧
    ∀ zeros : List F32, (∀ z ∈ zeros, z.toReal = 0 ∧ z.isFinite = true) →
      ∃ v ys, CompletesWith (.bpfProcessBlock zeros) t (.bpf v) (.listF32 ys) ∧
        ys.length = zeros.length ∧ ∀ y ∈ ys, y.toReal = 0 ∧ y.isFinite = true
end

