-- ==== Sys2Proof/Laws/Decode.lean ====
section
/-! SUPPORT. Reading what was written, operand type by operand type (R52, R71). -/

namespace Sys2Proof

theorem word32_bytesOf32 (w : BitVec 32) :
    word32 (w.extractLsb' 0 8) (w.extractLsb' 8 8) (w.extractLsb' 16 8) (w.extractLsb' 24 8) = w := by
  apply BitVec.eq_of_getLsbD_eq
  intro i hi
  simp only [word32, BitVec.getLsbD_append, BitVec.getLsbD_extractLsb']
  by_cases h0 : i < 8
  · simp [h0]
  · by_cases h1 : i < 16
    · simp [h0, show i - 8 < 8 by omega, show 8 + (i - 8) = i by omega]
    · by_cases h2 : i < 24
      · simp [h0, show ¬ i - 8 < 8 by omega, show i - 8 - 8 < 8 by omega,
          show 16 + (i - 8 - 8) = i by omega]
      · simp [h0, show ¬ i - 8 < 8 by omega, show ¬ i - 8 - 8 < 8 by omega,
          show i - 8 - 8 - 8 < 8 by omega, show 24 + (i - 8 - 8 - 8) = i by omega]

theorem bytesOf32_word32 (b0 b1 b2 b3 : Byte) : bytesOf32 (word32 b0 b1 b2 b3) = [b0, b1, b2, b3] := by
  simp only [bytesOf32, word32, List.cons.injEq, and_true]
  refine ⟨?_, ?_, ?_, ?_⟩ <;>
    (apply BitVec.eq_of_getLsbD_eq
     intro i hi
     rw [BitVec.getLsbD_extractLsb', BitVec.getLsbD_append, BitVec.getLsbD_append,
       BitVec.getLsbD_append]
     simp only [hi, decide_true, Bool.true_and])
  · simp [hi]
  · simp [hi, show 8 + i - 8 = i by omega]
  · simp [hi, show ¬ 16 + i < 8 by omega, show 16 + i - 8 - 8 = i by omega, show ¬ 16 + i - 8 < 8 by omega]
  · simp [show ¬ 24 + i < 8 by omega, show ¬ 24 + i - 8 < 8 by omega, show ¬ 24 + i - 8 - 8 < 8 by omega,
      show 24 + i - 8 - 8 - 8 = i by omega]

@[simp] theorem bytesOf32_length (w : BitVec 32) : (bytesOf32 w).length = 4 := rfl

theorem readU8_write (b : Byte) (rest : List Byte) : readU8 (u8Bytes b ++ rest) = some (b, rest) := rfl

theorem readU32_write (w : U32) (rest : List Byte) :
    readU32 (bytesOf32 w ++ rest) = some (w, rest) := by
  simp only [bytesOf32, List.cons_append, List.nil_append, readU32, word32_bytesOf32]

theorem readF32_write (x : F32) (rest : List Byte) :
    readF32 (f32Bytes x ++ rest) = some (x, rest) := by
  simp only [readF32, f32Bytes, readU32_write, Option.map_some]

/-- A reader reads back what its writer writes. -/
def Reads {α : Type} (read : List Byte → Option (α × List Byte)) (write : α → List Byte) : Prop :=
  ∀ a rest, read (write a ++ rest) = some (a, rest)

/-- A reader answers only with what its writer writes. -/
def ReadsOnly {α : Type} (read : List Byte → Option (α × List Byte)) (write : α → List Byte) :
    Prop :=
  ∀ bytes a rest, read bytes = some (a, rest) → bytes = write a ++ rest

/-- A reader fails on every beginning of what its writer writes. -/
def FailsShort {α : Type} (read : List Byte → Option (α × List Byte)) (write : α → List Byte) :
    Prop :=
  ∀ a k, k < (write a).length → read ((write a).take k) = none

theorem reads_u8 : Reads readU8 u8Bytes := readU8_write

theorem reads_u32 : Reads readU32 bytesOf32 := readU32_write

theorem reads_f32 : Reads readF32 f32Bytes := readF32_write

theorem readMany_write {α : Type} {read : List Byte → Option (α × List Byte)}
    {write : α → List Byte} (h : Reads read write) (l : List α) (rest : List Byte) :
    readMany read l.length (l.flatMap write ++ rest) = some (l, rest) := by
  induction l with
  | nil => rfl
  | cons a l ih =>
    simp only [List.length_cons, List.flatMap_cons, List.append_assoc, readMany]
    rw [h a]
    simp only [ih]

theorem readList_write {α : Type} {read : List Byte → Option (α × List Byte)}
    {write : α → List Byte} (h : Reads read write) {l : List α} (hl : listFits l = true)
    (rest : List Byte) : readList read (listBytes write l ++ rest) = some (l, rest) := by
  have hl' : l.length < 2 ^ 32 := by simpa [listFits] using hl
  simp only [readList, listBytes, List.append_assoc, readU32_write, BitVec.toNat_ofNat,
    Nat.mod_eq_of_lt hl']
  exact readMany_write h l rest

theorem only_u8 : ReadsOnly readU8 u8Bytes := by
  intro bytes a rest h
  cases bytes with
  | nil => cases h
  | cons b bytes => cases h; rfl

theorem only_u32 : ReadsOnly readU32 bytesOf32 := by
  intro bytes a rest h
  match bytes, h with
  | b0 :: b1 :: b2 :: b3 :: bytes, h =>
    simp only [readU32, Option.some.injEq, Prod.mk.injEq] at h
    rw [← h.1, bytesOf32_word32, h.2]
    rfl

theorem only_f32 : ReadsOnly readF32 f32Bytes := by
  intro bytes a rest h
  simp only [readF32, Option.map_eq_some_iff] at h
  obtain ⟨⟨w, r⟩, hr, he⟩ := h
  cases he
  exact only_u32 _ _ _ hr

theorem only_many {α : Type} {read : List Byte → Option (α × List Byte)} {write : α → List Byte}
    (h : ReadsOnly read write) (n : Nat) (bytes : List Byte) (l : List α) (rest : List Byte)
    (hr : readMany read n bytes = some (l, rest)) :
    l.length = n ∧ bytes = l.flatMap write ++ rest := by
  induction n generalizing bytes l with
  | zero => cases hr; exact ⟨rfl, rfl⟩
  | succ n ih =>
    simp only [readMany] at hr
    split at hr
    · cases hr
    · next a r1 ha =>
      split at hr
      · cases hr
      · next as r2 has =>
        cases hr
        obtain ⟨h1, h2⟩ := ih _ _ has
        refine ⟨by simp [h1], ?_⟩
        rw [h _ _ _ ha, h2, List.flatMap_cons, List.append_assoc]

theorem only_list {α : Type} {read : List Byte → Option (α × List Byte)} {write : α → List Byte}
    (h : ReadsOnly read write) {bytes : List Byte} {l : List α} {rest : List Byte}
    (hr : readList read bytes = some (l, rest)) :
    listFits l = true ∧ bytes = listBytes write l ++ rest := by
  simp only [readList] at hr
  split at hr
  · cases hr
  · next w r1 hw =>
    obtain ⟨h1, h2⟩ := only_many h _ _ _ _ hr
    refine ⟨?_, ?_⟩
    · simpa [listFits, h1] using w.isLt
    · rw [only_u32 _ _ _ hw, h2, listBytes, h1, BitVec.ofNat_toNat, BitVec.setWidth_eq,
        List.append_assoc]

end Sys2Proof
end

