-- ==== Sys2Proof/Laws/Demodulators.lean ====
section
/-! SUPPORT. The parts of FSKDEMOD's and PSKDEMOD's samples: which registers each can write, and the
window as spec/45_fsk_demod.md reads the ring. -/

namespace Sys2Proof.Machine

variable {F : Type} (C : Config F)

/-! ### FSKDEMOD -/

/-- R204: element `i` of the window is the ring's element `(wpos + i) mod W`: the oldest first. -/
theorem analysisWindow_getElem? (u : FskDemod F) (i : Nat) (hw : u.wpos < u.ring.length)
    (hi : i < u.ring.length) :
    u.analysisWindow[i]? = u.ring[(u.wpos + i) % u.ring.length]? := by
  unfold FskDemod.analysisWindow
  by_cases h : u.wpos + i < u.ring.length
  · rw [Nat.mod_eq_of_lt h, List.getElem?_append_left (by simp; omega), List.getElem?_drop]
  · rw [Nat.mod_eq_sub_mod (by omega), Nat.mod_eq_of_lt (by omega),
      List.getElem?_append_right (by simp; omega), List.getElem?_take, if_pos (by simp; omega)]
    congr 1
    simp
    omega

@[simp] theorem analysisWindow_length (u : FskDemod F) (hw : u.wpos ≤ u.ring.length) :
    u.analysisWindow.length = u.ring.length := by
  simp [FskDemod.analysisWindow]
  omega

/-- The front end writes the filter memories, the gain and the ring with its index. -/
theorem fskFrontEnd_eq (u : FskDemod F) (x : F) :
    fskFrontEnd C u x =
      { u with
        bpf := (fskFrontEnd C u x).bpf
        gain := (fskFrontEnd C u x).gain
        ring := (fskFrontEnd C u x).ring
        wpos := (u.wpos + 1) % u.par.window C } := rfl

/-- R206 to R208 write the correlation, the history, the strength and the noise floor. -/
theorem fskMeasure_eq (u : FskDemod F) :
    fskMeasure C u =
      { u with
        corr := (fskMeasure C u).corr
        hist := (fskMeasure C u).hist
        strength := (fskMeasure C u).strength
        noiseFloor := (fskMeasure C u).noiseFloor } := rfl

/-- R209 writes the flag and emits at most one event. -/
theorem fskDetect_eq (sq : F) (u : FskDemod F) :
    (fskDetect C sq u).1 = { u with detected := fskDetectedNext C u.detected u.strength sq } ∧
      (fskDetect C sq u).2 =
        if (fskDetect C sq u).1.detected = u.detected then []
        else [.signal (fskDetect C sq u).1.detected (C.num.toF32 u.markTuned)] := ⟨rfl, rfl⟩

/-- R210 writes the counter and the smoothed correction. -/
theorem fskAfcScan_eq (u : FskDemod F) :
    fskAfcScan C u =
      { u with
        afcCount := if u.afcCount + 1 = C.afcPeriod then 0 else u.afcCount + 1
        afcSmooth := (fskAfcScan C u).afcSmooth } := by
  unfold fskAfcScan
  simp only
  split
  · split <;> rfl
  · rfl

/-- R211 writes the offset, the smoothed correction and the filter memories, only from
`WaitingForStart`. -/
theorem fskRetune_eq (u : FskDemod F) :
    fskRetune C u =
        { u with
          afcOffset := (fskRetune C u).afcOffset
          afcSmooth := (fskRetune C u).afcSmooth
          bpf := (fskRetune C u).bpf } ∧
      (u.phase ≠ .waitingForStart → fskRetune C u = u) := by
  unfold fskRetune
  simp only
  split
  · next h =>
    simp only [Bool.and_eq_true, decide_eq_true_eq] at h
    split
    · exact ⟨rfl, fun hn => absurd h.2 hn⟩
    · exact ⟨rfl, fun hn => absurd h.2 hn⟩
  · exact ⟨rfl, fun _ => rfl⟩

/-- R212 to R216 write the automaton's registers and the decoder's shift. -/
theorem fskMachine_eq (sq : F) (u : FskDemod F) :
    (fskMachine C sq u).1 =
      { u with
        phase := (fskMachine C sq u).1.phase
        tick := (fskMachine C sq u).1.tick
        bitIndex := (fskMachine C sq u).1.bitIndex
        code := (fskMachine C sq u).1.code
        minConf := (fskMachine C sq u).1.minConf
        dec := (fskMachine C sq u).1.dec } := by
  cases hp : u.phase <;> simp only [fskMachine, hp]
  · unfold fskWaitingForStart
    split <;> rfl
  · unfold fskInStartBit
    simp only
    split
    · split <;> rfl
    · rfl
  · unfold fskReceivingData
    simp only
    split
    · rfl
    · split
      · split <;> rfl
      · rfl
  · unfold fskInStopBits
    simp only
    split
    · split
      · unfold fskDeliver
        split <;> rfl
      · rfl
    · rfl

/-- R212 to R216: only a step in `InStopBits` emits. -/
theorem fskMachine_silent (sq : F) (u : FskDemod F) (h : u.phase ≠ .inStopBits) :
    (fskMachine C sq u).2 = [] := by
  cases hp : u.phase <;> simp_all [fskMachine]

/-! ### PSKDEMOD -/

/-- R252 writes the oscillator's phase. -/
theorem pskMix_eq (u : PskDemod F) (x : F) :
    (pskMix C u x).1 = { u with loPhase := (pskMix C u x).1.loPhase } := rfl

/-- R254 writes the gates: the on-time sums and the energy, and the sums of one half. -/
theorem pskGates_eq (u : PskDemod F) :
    pskGates C u =
      { u with
        onI := C.num.add u.onI u.iF
        onQ := C.num.add u.onQ u.qF
        sumSq := C.num.add u.sumSq (C.num.add (C.num.mul u.iF u.iF) (C.num.mul u.qF u.qF))
        earlyI := (pskGates C u).earlyI
        earlyQ := (pskGates C u).earlyQ
        lateI := (pskGates C u).lateI
        lateQ := (pskGates C u).lateQ } := by
  unfold pskGates
  simp only
  split <;> rfl

/-- R259 writes the decoder. -/
theorem pskDeliver_eq (bits : List Bool) (u : PskDemod F) :
    (pskDeliver C bits u).1 = { u with dec := (pskDeliver C bits u).1.dec } := by
  induction bits generalizing u with
  | nil => rfl
  | cons b bits ih =>
    simp only [pskDeliver]
    rw [ih]

theorem lowBit_bitByte (b : Bool) : lowBit (bitByte b) = b := by cases b <;> rfl

/-- R259, all of it: the bits go through the decoder as DECODE_BITS takes them, and the characters they
complete are emitted where the gate passes. -/
theorem pskDeliver_run (bits : List Bool) (u : PskDemod F) :
    pskDeliver C bits u =
      ({ u with dec := (varicodeDecodeRun C (bits.map bitByte) u.dec).1 },
        if u.detected && C.num.le u.squelch u.strength then
          (varicodeDecodeRun C (bits.map bitByte) u.dec).2.map fun ch =>
            Event.decode ch (C.num.toF32 u.centerTuned)
        else []) := by
  induction bits generalizing u with
  | nil => simp [pskDeliver, varicodeDecodeRun]
  | cons b bits ih =>
    simp only [pskDeliver, ih, List.map_cons, varicodeDecodeRun, lowBit_bitByte]
    cases (varicodeFeed C u.dec b).2 with
    | none => simp
    | some ch =>
      simp only [Option.toList_some, List.singleton_append, List.map_cons]
      split <;> simp

end Sys2Proof.Machine
end

