-- ==== Sys2Proof/Laws/ExactReals.lean ====
section
/-! SUPPORT. The exact real numbers as the numerics of R9: what each primitive of R13 and each default
value of R6 is over them. -/

namespace Sys2Proof.Machine

variable (r : ℝ → F32) (a b : ℝ)

@[simp] theorem exactConfig_num : (exactConfig r).num = exactNum r := rfl

@[simp] theorem exact_add : (exactNum r).add a b = a + b := rfl

@[simp] theorem exact_sub : (exactNum r).sub a b = a - b := rfl

@[simp] theorem exact_mul : (exactNum r).mul a b = a * b := rfl

@[simp] theorem exact_div : (exactNum r).div a b = a / b := rfl

@[simp] theorem exact_neg : (exactNum r).neg a = -a := rfl

@[simp] theorem exact_abs : (exactNum r).abs a = |a| := rfl

@[simp] theorem exact_sqrt : (exactNum r).sqrt a = Real.sqrt a := rfl

@[simp] theorem exact_sin : (exactNum r).sin a = Real.sin a := rfl

@[simp] theorem exact_cos : (exactNum r).cos a = Real.cos a := rfl

@[simp] theorem exact_floor : (exactNum r).floor a = ⌊a⌋ := rfl

@[simp] theorem exact_min : (exactNum r).min a b = min a b := rfl

@[simp] theorem exact_max : (exactNum r).max a b = max a b := rfl

@[simp] theorem exact_lt : (exactNum r).lt a b = decide (a < b) := rfl

@[simp] theorem exact_le : (exactNum r).le a b = decide (a ≤ b) := rfl

@[simp] theorem exact_pi : (exactNum r).pi = Real.pi := rfl

@[simp] theorem exact_toF32 : (exactNum r).toF32 a = r a := rfl

@[simp] theorem exact_ratio (p : Int) (q : Nat) : (exactNum r).ratio p q = (p : ℝ) / (q : ℝ) := rfl

@[simp] theorem exact_int (z : Int) : (exactNum r).int z = (z : ℝ) := by simp [Num.int]

@[simp] theorem exact_nat (n : Nat) : (exactNum r).nat n = (n : ℝ) := by simp [Num.nat]

@[simp] theorem exact_zero : (exactNum r).zero = 0 := by simp [Num.zero]

@[simp] theorem exact_one : (exactNum r).one = 1 := by simp [Num.one]

@[simp] theorem exact_twoPi : (exactNum r).twoPi = 2 * Real.pi := by simp [Num.twoPi]

@[simp] theorem exact_square : (exactNum r).square a = a ^ 2 := by simp [Num.square, sq]

/-! ### `wrap` and `clamp` (R13) -/

/-- Over the exact reals `wrap` is the formula of R13 and never leaves its range. -/
theorem exact_wrap :
    (exactNum r).wrap a = a - 2 * Real.pi * ⌊a / (2 * Real.pi)⌋ ∧
      0 ≤ (exactNum r).wrap a ∧ (exactNum r).wrap a < 2 * Real.pi := by
  have hp : 0 < 2 * Real.pi := by positivity
  have h0 : 0 ≤ a - 2 * Real.pi * ⌊a / (2 * Real.pi)⌋ := by
    have := Int.floor_le (a / (2 * Real.pi))
    rw [le_div_iff₀ hp] at this
    linarith
  have h1 : a - 2 * Real.pi * ⌊a / (2 * Real.pi)⌋ < 2 * Real.pi := by
    have := Int.lt_floor_add_one (a / (2 * Real.pi))
    rw [div_lt_iff₀ hp] at this
    linarith
  have e : (exactNum r).wrap a = a - 2 * Real.pi * ⌊a / (2 * Real.pi)⌋ := by
    simp only [Num.wrap, exact_twoPi, exact_sub, exact_mul, exact_int, exact_floor, exact_div,
      exact_lt, exact_zero, decide_eq_true_eq]
    rw [if_neg (not_lt.2 h0), if_pos h1]
  rw [e]
  exact ⟨rfl, h0, h1⟩

/-- `wrap` changes a phase by a whole number of turns. -/
theorem exact_sin_wrap (c : ℝ) : Real.sin ((exactNum r).wrap a + c) = Real.sin (a + c) := by
  rw [(exact_wrap r a).1,
    show a - 2 * Real.pi * (⌊a / (2 * Real.pi)⌋ : ℝ) + c
      = a + c - (⌊a / (2 * Real.pi)⌋ : ℤ) * (2 * Real.pi) by ring]
  exact Real.sin_sub_int_mul_two_pi _ _

@[simp] theorem exact_clamp (lo hi : ℝ) : (exactNum r).clamp a lo hi = min hi (max lo a) := rfl

/-! ### The default values of R6 -/

@[simp] theorem exactConfig_oscAmp : (exactConfig r).oscAmp = 1 := by
  simp [exactConfig, defaultConfig]

@[simp] theorem exactConfig_powerFloor : (exactConfig r).powerFloor = 1 / 10000000000 := by
  simp [exactConfig, defaultConfig]

@[simp] theorem exactConfig_bpfMarginHz : (exactConfig r).bpfMarginHz = 50 := by
  simp [exactConfig, defaultConfig]

@[simp] theorem exactConfig_thresh : (exactConfig r).thresh = 1 / 5 := by
  simp [exactConfig, defaultConfig]; norm_num

@[simp] theorem exactConfig_confFull : (exactConfig r).confFull = 1 / 2 := by
  simp [exactConfig, defaultConfig]; norm_num

@[simp] theorem exactConfig_gainMin : (exactConfig r).gainMin = 1 / 10 := by
  simp [exactConfig, defaultConfig]

@[simp] theorem exactConfig_gainMax : (exactConfig r).gainMax = 10 := by
  simp [exactConfig, defaultConfig]

@[simp] theorem exactConfig_agcTarget : (exactConfig r).agcTarget = 1 / 2 := by
  simp [exactConfig, defaultConfig]; norm_num

@[simp] theorem exactConfig_nfMin : (exactConfig r).nfMin = 1 / 1000 := by
  simp [exactConfig, defaultConfig]

@[simp] theorem exactConfig_nfMax : (exactConfig r).nfMax = 1 / 4 := by
  simp [exactConfig, defaultConfig]; norm_num

@[simp] theorem exactConfig_stepsPerBit : (exactConfig r).stepsPerBit = 4 := rfl

@[simp] theorem exactConfig_sampleTick : (exactConfig r).sampleTick = 3 := rfl

@[simp] theorem exactConfig_histLen : (exactConfig r).histLen = 8 := rfl

@[simp] theorem exactConfig_gScale (n : Nat) :
    (exactConfig r).gScale n = 4 / ((n : ℝ) * n) := by
  simp [exactConfig, defaultConfig]

end Sys2Proof.Machine
end

