-- ==== Sys2Proof/Laws/Instances.lean ====
section
/-! SUPPORT. The finite map of instances: read after write, and the canonical form. -/

namespace Sys2Proof.Machine

theorem lookup_set_same (id : Nat) (v : Instance F64) (m : List (Nat × Instance F64)) :
    lookupInstance id (setInstance id v m) = some v := by
  induction m with
  | nil => simp [setInstance, lookupInstance]
  | cons e m ih =>
    obtain ⟨k, u⟩ := e
    simp only [setInstance]
    split
    · simp [lookupInstance]
    · split <;> simp_all [lookupInstance]

theorem lookup_set_other (id k : Nat) (v : Instance F64) (m : List (Nat × Instance F64))
    (h : k ≠ id) : lookupInstance k (setInstance id v m) = lookupInstance k m := by
  induction m with
  | nil => simp [setInstance, lookupInstance, h.symm]
  | cons e m ih =>
    obtain ⟨j, u⟩ := e
    simp only [setInstance]
    split
    · simp [lookupInstance, h.symm]
    · split
      · subst j; simp [lookupInstance, h.symm]
      · simp [lookupInstance, ih]

theorem lookup_erase_other (id k : Nat) (m : List (Nat × Instance F64)) (h : k ≠ id) :
    lookupInstance k (eraseInstance id m) = lookupInstance k m := by
  induction m with
  | nil => rfl
  | cons e m ih =>
    obtain ⟨j, u⟩ := e
    simp only [eraseInstance]
    split
    · subst j; simp [lookupInstance, h.symm]
    · simp [lookupInstance, ih]

/-- The canonical form is monotone in its lower bound. -/
theorem risingFrom_weaken {lo lo' : Nat} {m : List (Nat × Instance F64)} (h : lo' ≤ lo)
    (hm : risingFrom lo m = true) : risingFrom lo' m = true := by
  cases m with
  | nil => rfl
  | cons e m =>
    simp only [risingFrom, Bool.and_eq_true, decide_eq_true_eq] at *
    exact ⟨by omega, hm.2⟩

/-- An identifier below the lower bound is not in a canonical map. -/
theorem lookup_below {lo id : Nat} {m : List (Nat × Instance F64)} (h : id < lo)
    (hm : risingFrom lo m = true) : lookupInstance id m = none := by
  induction m generalizing lo with
  | nil => rfl
  | cons e m ih =>
    simp only [risingFrom, Bool.and_eq_true, decide_eq_true_eq] at hm
    have : e.1 ≠ id := by omega
    simp only [lookupInstance, this, if_false]
    exact ih (by omega : id < e.1 + 1) hm.2

theorem rising_set {lo id : Nat} (v : Instance F64) {m : List (Nat × Instance F64)} (h : lo ≤ id)
    (hm : risingFrom lo m = true) : risingFrom lo (setInstance id v m) = true := by
  induction m generalizing lo with
  | nil => simp [setInstance, risingFrom, h]
  | cons e m ih =>
    obtain ⟨k, u⟩ := e
    simp only [risingFrom, Bool.and_eq_true, decide_eq_true_eq] at hm
    simp only [setInstance]
    split
    · simp [risingFrom, h, hm.2]; omega
    · split
      · subst k; simp [risingFrom, h, hm.2]
      · simp only [risingFrom, Bool.and_eq_true, decide_eq_true_eq]
        exact ⟨hm.1, ih (by omega) hm.2⟩

theorem rising_erase {lo id : Nat} {m : List (Nat × Instance F64)}
    (hm : risingFrom lo m = true) : risingFrom lo (eraseInstance id m) = true := by
  induction m generalizing lo with
  | nil => rfl
  | cons e m ih =>
    obtain ⟨k, u⟩ := e
    simp only [risingFrom, Bool.and_eq_true, decide_eq_true_eq] at hm
    simp only [eraseInstance]
    split
    · exact risingFrom_weaken (by omega) hm.2
    · simp only [risingFrom, Bool.and_eq_true, decide_eq_true_eq]
      exact ⟨hm.1, ih hm.2⟩

theorem lookup_erase_same {lo id : Nat} {m : List (Nat × Instance F64)}
    (hm : risingFrom lo m = true) : lookupInstance id (eraseInstance id m) = none := by
  induction m generalizing lo with
  | nil => rfl
  | cons e m ih =>
    obtain ⟨k, u⟩ := e
    simp only [risingFrom, Bool.and_eq_true, decide_eq_true_eq] at hm
    simp only [eraseInstance]
    split
    · exact lookup_below (by omega) hm.2
    · next h => simp only [lookupInstance, h, if_false]; exact ih hm.2

/-- A canonical map is determined by what it reads as. -/
theorem rising_ext {lo : Nat} {m m' : List (Nat × Instance F64)} (hm : risingFrom lo m = true)
    (hm' : risingFrom lo m' = true) (h : ∀ k, lookupInstance k m = lookupInstance k m') :
    m = m' := by
  induction m generalizing lo m' with
  | nil =>
    cases m' with
    | nil => rfl
    | cons e m' => simpa [lookupInstance] using h e.1
  | cons e m ih =>
    cases m' with
    | nil => simpa [lookupInstance] using h e.1
    | cons e' m' =>
      obtain ⟨k, u⟩ := e
      obtain ⟨k', u'⟩ := e'
      simp only [risingFrom, Bool.and_eq_true, decide_eq_true_eq] at hm hm'
      have hk : k = k' := by
        rcases Nat.lt_trichotomy k k' with hlt | heq | hgt
        · have h1 := h k
          have h2 := lookup_below (id := k) (by omega : k < k' + 1) hm'.2
          simp [lookupInstance, h2, show k' ≠ k by omega] at h1
        · exact heq
        · have h1 := h k'
          have h2 := lookup_below (id := k') (by omega : k' < k + 1) hm.2
          simp [lookupInstance, h2, show k ≠ k' by omega] at h1
      subst hk
      have hu : u = u' := by simpa [lookupInstance] using h k
      subst hu
      congr 1
      refine ih hm.2 hm'.2 fun j => ?_
      by_cases hj : k = j
      · subst hj
        rw [lookup_below (by omega) hm.2, lookup_below (by omega) hm'.2]
      · simpa [lookupInstance, hj] using h j

/-- What holds of every instance of a map holds of every one after a write of one of which it
holds. -/
theorem all_set {p : Instance F64 → Bool} {id : Nat} {v : Instance F64}
    {m : List (Nat × Instance F64)} (hv : p v = true)
    (hm : (m.all fun e => p e.2) = true) : ((setInstance id v m).all fun e => p e.2) = true := by
  induction m with
  | nil => simpa [setInstance] using hv
  | cons e m ih =>
    simp only [List.all_cons, Bool.and_eq_true] at hm
    simp only [setInstance]
    split
    · simp [hv, hm.1]; simpa using hm.2
    · split
      · simp [hv]; simpa using hm.2
      · simp only [List.all_cons, Bool.and_eq_true]
        exact ⟨hm.1, ih hm.2⟩

theorem all_erase {p : Instance F64 → Bool} {id : Nat} {m : List (Nat × Instance F64)}
    (hm : (m.all fun e => p e.2) = true) : ((eraseInstance id m).all fun e => p e.2) = true := by
  induction m with
  | nil => rfl
  | cons e m ih =>
    simp only [List.all_cons, Bool.and_eq_true] at hm
    simp only [eraseInstance]
    split
    · exact hm.2
    · simp only [List.all_cons, Bool.and_eq_true]
      exact ⟨hm.1, ih hm.2⟩

/-- What holds of every instance of a map holds of the one at an identifier. -/
theorem all_lookup {p : Instance F64 → Bool} {id : Nat} {v : Instance F64}
    {m : List (Nat × Instance F64)} (hm : (m.all fun e => p e.2) = true)
    (h : lookupInstance id m = some v) : p v = true := by
  induction m with
  | nil => simp [lookupInstance] at h
  | cons e m ih =>
    simp only [List.all_cons, Bool.and_eq_true] at hm
    simp only [lookupInstance] at h
    split at h
    · cases h; exact hm.1
    · exact ih hm.2 h

end Sys2Proof.Machine
end

