-- ==== Sys2Proof/Laws/State.lean ====
section
/-! SUPPORT. One lemma per field per update of the state: what answering, refusing and the surrounding
system's actions write and leave. -/

namespace Sys2Proof.Machine

variable (s : State) (u : Instance F64) (r : Result) (reason : Reason) (id : Nat)

@[simp] theorem complete_instances :
    (s.complete u r).instances = setInstance s.addressed u s.instances := rfl

@[simp] theorem complete_addressed : (s.complete u r).addressed = s.addressed := rfl

@[simp] theorem complete_input : (s.complete u r).input = s.input := rfl

@[simp] theorem complete_output :
    (s.complete u r).output = s.output ++ [.response s.addressed (.done r)] := rfl

@[simp] theorem refuse_instances : (s.refuse reason).instances = s.instances := rfl

@[simp] theorem refuse_addressed : (s.refuse reason).addressed = s.addressed := rfl

@[simp] theorem refuse_input : (s.refuse reason).input = s.input := rfl

@[simp] theorem refuse_output :
    (s.refuse reason).output = s.output ++ [.response s.addressed (.refused reason)] := rfl

@[simp] theorem discard_instances : (s.discard id).instances = eraseInstance id s.instances := rfl

@[simp] theorem discard_addressed : (s.discard id).addressed = s.addressed := rfl

@[simp] theorem discard_input : (s.discard id).input = s.input := rfl

@[simp] theorem discard_output : (s.discard id).output = s.output := rfl

@[simp] theorem instantiate_addressed (p : Params F64) :
    (s.instantiate id p).addressed = s.addressed := by
  unfold State.instantiate; split <;> rfl

@[simp] theorem instantiate_input (p : Params F64) : (s.instantiate id p).input = s.input := by
  unfold State.instantiate; split <;> rfl

@[simp] theorem complete_unit? : (s.complete u r).unit? = some u := lookup_set_same _ _ _

@[simp] theorem refuse_unit? : (s.refuse reason).unit? = s.unit? := rfl

end Sys2Proof.Machine
end

