-- ==== Sys2Proof/Laws/Outcome.lean ====
section
/-! SUPPORT. What a command on the addressed instance can do: `onUnit` once and for all, and the forms
in which claims are stated. -/

namespace Sys2Proof.Machine

variable {U : Type} {proj : Instance F64 → Option U} {inj : U → Instance F64} {s : State}
  {f : U → Performed U} {v : Instance F64} {u u' : U} {r : Result} {reason : Reason}

/-- Everything a command on the addressed instance can do. -/
theorem onUnit_cases (proj : Instance F64 → Option U) (inj : U → Instance F64) (s : State)
    (f : U → Performed U) :
    (s.unit? = none ∧ onUnit proj inj s f = .fault .noInstance) ∨
    (∃ v, s.unit? = some v ∧ proj v = none ∧
      onUnit proj inj s f = .next (s.refuse .reservedCommand)) ∨
    (∃ v u reason, s.unit? = some v ∧ proj v = some u ∧ f u = .error reason ∧
      onUnit proj inj s f = .next (s.refuse reason)) ∨
    (∃ v u u' r, s.unit? = some v ∧ proj v = some u ∧ f u = .ok (u', r) ∧
      onUnit proj inj s f = .next (s.complete (inj u') r)) := by
  unfold onUnit
  cases hv : s.unit? with
  | none => exact .inl ⟨rfl, rfl⟩
  | some v =>
    cases hu : proj v with
    | none => exact .inr (.inl ⟨v, rfl, hu, by simp only [hu]⟩)
    | some u =>
      cases hf : f u with
      | error reason =>
        exact .inr (.inr (.inl ⟨v, u, reason, rfl, hu, hf, by simp only [hu, hf, finish]⟩))
      | ok p =>
        exact .inr (.inr (.inr ⟨v, u, p.1, p.2, rfl, hu, hf, by simp only [hu, hf, finish]⟩))

theorem onUnit_ok (hv : s.unit? = some v) (hu : proj v = some u) (hf : f u = .ok (u', r)) :
    onUnit proj inj s f = .next (s.complete (inj u') r) := by
  simp only [onUnit, hv, hu, hf, finish]

theorem onUnit_error (hv : s.unit? = some v) (hu : proj v = some u) (hf : f u = .error reason) :
    onUnit proj inj s f = .next (s.refuse reason) := by
  simp only [onUnit, hv, hu, hf, finish]

/-- A completed command in the form claims have. -/
theorem completesWith_intro {i : Instr} {w : Instance F64}
    (h : exec i s = .next (s.complete w r)) : CompletesWith i s w r :=
  ⟨_, h, complete_unit? s w r, ⟨fun k hk => by simp [lookup_set_other _ _ _ _ hk], rfl, rfl⟩, rfl⟩

/-- A command of a unit completes where the unit's operation does. -/
theorem completesWith_onUnit {i : Instr} (h : exec i s = onUnit proj inj s f)
    (hv : s.unit? = some v) (hu : proj v = some u) (hf : f u = .ok (u', r)) :
    CompletesWith i s (inj u') r :=
  completesWith_intro (h.trans (onUnit_ok hv hu hf))

/-- A command of a unit is refused where the unit's operation is. -/
theorem refusedWith_onUnit {i : Instr} (h : exec i s = onUnit proj inj s f)
    (hv : s.unit? = some v) (hu : proj v = some u) (hf : f u = .error reason) :
    RefusedWith i s reason :=
  h.trans (onUnit_error hv hu hf)

/-! ### The tests of operands -/

theorem requireFinite_of {x : F32} {k : Unit → Performed U} (h : x.isFinite = true) :
    requireFinite x k = k () := by simp [requireFinite, h]

theorem requireFinite_not {x : F32} {k : Unit → Performed U} (h : x.isFinite = false) :
    requireFinite x k = .error .nonFinite := by simp [requireFinite, h]

theorem requireAllFinite_of {xs : List F32} {k : Unit → Performed U}
    (h : ∀ x ∈ xs, x.isFinite = true) : requireAllFinite xs k = k () := by
  simp only [requireAllFinite]; rw [if_pos (by simpa using h)]

theorem requireAllFinite_not {xs : List F32} {k : Unit → Performed U}
    (h : ∃ x ∈ xs, x.isFinite = false) : requireAllFinite xs k = .error .nonFinite := by
  simp only [requireAllFinite]; rw [if_neg (by simpa using h)]

theorem requireLength_of {xs : List F32} {n : Nat} {k : Unit → Performed U} (h : xs.length = n) :
    requireLength xs n k = k () := by simp [requireLength, h]

theorem requireLength_not {xs : List F32} {n : Nat} {k : Unit → Performed U} (h : xs.length ≠ n) :
    requireLength xs n k = .error .blockSizeMismatch := by simp [requireLength, h]

theorem requireShort_of {n : Nat} {k : Unit → Performed U} (h : n < 2 ^ 32) :
    requireShort n k = k () := by simp only [requireShort, h, if_true]

theorem requireShort_not {n : Nat} {k : Unit → Performed U} (h : 2 ^ 32 ≤ n) :
    requireShort n k = .error .tooLong := by simp only [requireShort, Nat.not_lt.mpr h, if_false]

end Sys2Proof.Machine
end

