-- ==== Sys2Proof/Laws/PerInstr.lean ====
section
/-! SUPPORT. Statements made for every operation, proved per constructor. -/

/-- R70, R73, R74: the serialised form of an operation begins with a command byte whose upper four bits
are the number of its unit. -/
def Sys2Proof.Laws.CmdUnit.Statement (i : Sys2Proof.Instr) : Prop :=
  ∃ cmd bytes, Sys2Proof.encode i = cmd :: bytes ∧
    Sys2Proof.unitNumber cmd = i.unit.number

namespace Sys2Proof.Laws.CmdUnit

theorem oscReset : Statement .oscReset := ⟨_, _, rfl, rfl⟩

theorem oscNextSample : Statement .oscNextSample := ⟨_, _, rfl, rfl⟩

theorem oscGenerateCount (count : U32) : Statement (.oscGenerateCount count) := ⟨_, _, rfl, rfl⟩

theorem oscGenerateDuration (seconds : F32) :
    Statement (.oscGenerateDuration seconds) := ⟨_, _, rfl, rfl⟩

theorem oscSetFrequency (hz : F32) : Statement (.oscSetFrequency hz) := ⟨_, _, rfl, rfl⟩

theorem oscSetPhase (radians : F32) : Statement (.oscSetPhase radians) := ⟨_, _, rfl, rfl⟩

theorem goertzelReset : Statement .goertzelReset := ⟨_, _, rfl, rfl⟩

theorem goertzelProcess (sample : F32) : Statement (.goertzelProcess sample) := ⟨_, _, rfl, rfl⟩

theorem goertzelProcessBlock (samples : List F32) :
    Statement (.goertzelProcessBlock samples) := ⟨_, _, rfl, rfl⟩

theorem fskdetReset : Statement .fskdetReset := ⟨_, _, rfl, rfl⟩

theorem fskdetProcess (sample : F32) : Statement (.fskdetProcess sample) := ⟨_, _, rfl, rfl⟩

theorem fskdetProcessBlock (samples : List F32) :
    Statement (.fskdetProcessBlock samples) := ⟨_, _, rfl, rfl⟩

theorem bpfReset : Statement .bpfReset := ⟨_, _, rfl, rfl⟩

theorem bpfProcess (sample : F32) : Statement (.bpfProcess sample) := ⟨_, _, rfl, rfl⟩

theorem bpfProcessBlock (samples : List F32) :
    Statement (.bpfProcessBlock samples) := ⟨_, _, rfl, rfl⟩

theorem bpfMag (hz : F32) : Statement (.bpfMag hz) := ⟨_, _, rfl, rfl⟩

theorem bpfMagDb (hz : F32) : Statement (.bpfMagDb hz) := ⟨_, _, rfl, rfl⟩

theorem cbpfReset : Statement .cbpfReset := ⟨_, _, rfl, rfl⟩

theorem cbpfProcess (sample : F32) : Statement (.cbpfProcess sample) := ⟨_, _, rfl, rfl⟩

theorem cbpfProcessBlock (samples : List F32) :
    Statement (.cbpfProcessBlock samples) := ⟨_, _, rfl, rfl⟩

theorem cbpfMag (hz : F32) : Statement (.cbpfMag hz) := ⟨_, _, rfl, rfl⟩

theorem cbpfMagDb (hz : F32) : Statement (.cbpfMagDb hz) := ⟨_, _, rfl, rfl⟩

theorem baudotReset : Statement .baudotReset := ⟨_, _, rfl, rfl⟩

theorem baudotDecode (code : Byte) : Statement (.baudotDecode code) := ⟨_, _, rfl, rfl⟩

theorem baudotDecodeCodes (codes : List Byte) :
    Statement (.baudotDecodeCodes codes) := ⟨_, _, rfl, rfl⟩

theorem baudotEncodeChar (scalar : U32) : Statement (.baudotEncodeChar scalar) := ⟨_, _, rfl, rfl⟩

theorem baudotEncodeString (text : List U32) :
    Statement (.baudotEncodeString text) := ⟨_, _, rfl, rfl⟩

theorem baudotEncodeWithPreamble (text : List U32) (preambleCount : U32) :
    Statement (.baudotEncodeWithPreamble text preambleCount) := ⟨_, _, rfl, rfl⟩

theorem varicodeReset : Statement .varicodeReset := ⟨_, _, rfl, rfl⟩

theorem varicodeDecodeBit (bit : Byte) : Statement (.varicodeDecodeBit bit) := ⟨_, _, rfl, rfl⟩

theorem varicodeDecodeBits (bits : List Byte) :
    Statement (.varicodeDecodeBits bits) := ⟨_, _, rfl, rfl⟩

theorem varicodeEncodeChar (scalar : U32) :
    Statement (.varicodeEncodeChar scalar) := ⟨_, _, rfl, rfl⟩

theorem varicodeEncodeString (text : List U32) :
    Statement (.varicodeEncodeString text) := ⟨_, _, rfl, rfl⟩

theorem varicodeEncodeWithPreamble (text : List U32) (idleBits : U32) :
    Statement (.varicodeEncodeWithPreamble text idleBits) := ⟨_, _, rfl, rfl⟩

theorem varicodeBitLength (scalar : U32) : Statement (.varicodeBitLength scalar) := ⟨_, _, rfl, rfl⟩

theorem fskdemodReset : Statement .fskdemodReset := ⟨_, _, rfl, rfl⟩

theorem fskdemodProcessSample (sample : F32) :
    Statement (.fskdemodProcessSample sample) := ⟨_, _, rfl, rfl⟩

theorem fskdemodProcessBlock (samples : List F32) :
    Statement (.fskdemodProcessBlock samples) := ⟨_, _, rfl, rfl⟩

theorem fskdemodTune (markHz : F32) : Statement (.fskdemodTune markHz) := ⟨_, _, rfl, rfl⟩

theorem fskdemodSetSquelch (level : F32) : Statement (.fskdemodSetSquelch level) := ⟨_, _, rfl, rfl⟩

theorem fskdemodSetReverse (flag : Byte) : Statement (.fskdemodSetReverse flag) := ⟨_, _, rfl, rfl⟩

theorem fskdemodGetStrength : Statement .fskdemodGetStrength := ⟨_, _, rfl, rfl⟩

theorem fskdemodGetDetected : Statement .fskdemodGetDetected := ⟨_, _, rfl, rfl⟩

theorem pskdemodReset : Statement .pskdemodReset := ⟨_, _, rfl, rfl⟩

theorem pskdemodProcessSample (sample : F32) :
    Statement (.pskdemodProcessSample sample) := ⟨_, _, rfl, rfl⟩

theorem pskdemodProcessBlock (samples : List F32) :
    Statement (.pskdemodProcessBlock samples) := ⟨_, _, rfl, rfl⟩

theorem pskdemodTune (centerHz : F32) : Statement (.pskdemodTune centerHz) := ⟨_, _, rfl, rfl⟩

theorem pskdemodSetSquelch (level : F32) : Statement (.pskdemodSetSquelch level) := ⟨_, _, rfl, rfl⟩

theorem pskdemodGetStrength : Statement .pskdemodGetStrength := ⟨_, _, rfl, rfl⟩

theorem pskdemodGetDetected : Statement .pskdemodGetDetected := ⟨_, _, rfl, rfl⟩

theorem pskdemodGetTimingError : Statement .pskdemodGetTimingError := ⟨_, _, rfl, rfl⟩

end Sys2Proof.Laws.CmdUnit
end

