-- ==== Sys2Proof/Laws/Ranges.lean ====
section
/-! SUPPORT. `wrap` and `clamp` (R13) in the default realisation: the ranges they keep whatever the
arithmetic does (log 9, log 11). -/

namespace Sys2Proof.Machine

@[simp] theorem machineConfig_num : machineConfig.num = b64 := rfl

theorem b64_le_of_lt {a b : F64} (h : b64.lt a b = true) (ha : a.isFinite = true)
    (hb : b.isFinite = true) : b64.le a b = true := by
  simp only [b64, F64.lt, F64.le, ha, hb, Bool.and_self, if_true, decide_eq_true_eq] at *
  omega

theorem b64_le_refl {a : F64} (ha : a.isFinite = true) : b64.le a a = true := by
  simp [b64, F64.le, ha]

/-- What is in its bounds wherever it is a number is within bounds. -/
theorem withinBounds_of {v lo hi : F64}
    (h : v.isFinite = true → b64.le lo v = true ∧ b64.le v hi = true) :
    withinBounds machineConfig v lo hi = true := by
  unfold withinBounds
  by_cases hf : v.isFinite = true
  · simp [h hf]
  · have hn : b64.isFinite v = false := by
      show v.isFinite = false
      simpa using hf
    simp [hn]

/-- A clamped value is within its bounds. -/
theorem withinBounds_clamp (v : F64) {lo hi : F64} (hl : lo.isFinite = true)
    (hh : hi.isFinite = true) (hlh : b64.le lo hi = true) :
    withinBounds machineConfig (b64.clamp v lo hi) lo hi = true := by
  show withinBounds machineConfig (F64.min hi (F64.max lo v)) lo hi = true
  unfold F64.min
  split
  · next g1 =>
    unfold F64.max at *
    split
    · next g2 =>
      rw [if_pos g2] at g1
      exact withinBounds_of fun hf => ⟨b64_le_of_lt g2 hl hf, b64_le_of_lt g1 hf hh⟩
    · exact withinBounds_of fun _ => ⟨b64_le_refl hl, hlh⟩
  · exact withinBounds_of fun _ => ⟨hlh, b64_le_refl hh⟩

theorem phaseInRange_zero : phaseInRange machineConfig b64.zero = true := by decide +kernel

/-- The phase that stands where the formula of `wrap` leaves its range is in the range. -/
theorem phaseInRange_outside (p : F64) : phaseInRange machineConfig (b64PhaseOutside p) = true := by
  unfold b64PhaseOutside
  simp only
  split
  · next h =>
    simp only [Bool.and_eq_true, decide_eq_true_eq] at h
    have hz : b64.zero.key = 0 := by decide +kernel
    have hzf : b64.zero.isFinite = true := by decide +kernel
    have htf : b64.twoPi.isFinite = true := by decide +kernel
    have h0 : b64.lt (Config.freePhase p) b64.zero = false := by
      show F64.lt _ _ = false
      unfold F64.lt
      simp only [h, hzf, hz]
      simp [h.1.2]
    have h1 : b64.lt (Config.freePhase p) b64.twoPi = true := by
      show F64.lt _ _ = true
      unfold F64.lt
      simp only [h, htf, Bool.and_self, if_true, decide_eq_true_eq]
      exact h.2
    simp [phaseInRange, h0, h1]
  · exact phaseInRange_zero

/-- `wrap` always answers a phase. -/
theorem phaseInRange_wrap (p : F64) : phaseInRange machineConfig (b64.wrap p) = true := by
  unfold Num.wrap
  simp only
  split
  · exact phaseInRange_outside p
  · next h1 =>
    split
    · next h2 =>
      unfold phaseInRange
      rw [machineConfig_num, h2]
      simpa using h1
    · split
      · exact phaseInRange_zero
      · exact phaseInRange_outside p

/-- R183: a received bit keeps the shift register in its range, of whatever width it is. -/
theorem varicodeFeed_inRange {F : Type} (C : Config F) (u : Varicode) (b : Bool)
    (h : u.inRange C = true) : (varicodeFeed C u b).1.inRange C = true := by
  unfold varicodeFeed
  split
  · exact h
  · simp only
    split
    · simp [Varicode.inRange]
    · next hn =>
      have h0 : varicodeShift C u.acc b ≠ 0 := fun h0 => hn (by rw [h0])
      have hlt : varicodeShift C u.acc b < 2 ^ C.vAccBits := Nat.mod_lt _ (by positivity)
      simp [Varicode.inRange, h0, hlt, hn]

end Sys2Proof.Machine
end

