-- ==== Sys2Proof/Tests/Slice0.lean ====
section
/-! SUPPORT. Tests. The expected words are written out from R71 to R74, the expected values are those of
spec/95_test_vectors.md (named V-…), which gives six decimal places: reals are compared in millionths.
The theorems named witness_… show that the hypotheses of the statements can be met, clause by
clause. -/

open Sys2Proof Sys2Proof.Machine

namespace Sys2Proof.Tests

set_option Elab.async false

/-! ### Ill-formed terms are refused (R71) -/

def tooMany {α : Type} (a : α) : List α := List.replicate (2 ^ 32) a

theorem listFits_tooMany {α : Type} (a : α) : listFits (tooMany a) = false := by
  simp only [listFits, tooMany, List.length_replicate, Nat.lt_irrefl, decide_false]

theorem test_ill_goertzelProcessBlock :
    (Instr.goertzelProcessBlock (tooMany ⟨0⟩)).wellFormed = false :=
  listFits_tooMany _

theorem test_ill_fskdetProcessBlock :
    (Instr.fskdetProcessBlock (tooMany ⟨0⟩)).wellFormed = false :=
  listFits_tooMany _

theorem test_ill_bpfProcessBlock :
    (Instr.bpfProcessBlock (tooMany ⟨0⟩)).wellFormed = false :=
  listFits_tooMany _

theorem test_ill_cbpfProcessBlock :
    (Instr.cbpfProcessBlock (tooMany ⟨0⟩)).wellFormed = false :=
  listFits_tooMany _

theorem test_ill_baudotDecodeCodes :
    (Instr.baudotDecodeCodes (tooMany 0)).wellFormed = false :=
  listFits_tooMany _

theorem test_ill_baudotEncodeString :
    (Instr.baudotEncodeString (tooMany 0)).wellFormed = false :=
  listFits_tooMany _

theorem test_ill_baudotEncodeWithPreamble :
    (Instr.baudotEncodeWithPreamble (tooMany 0) 0).wellFormed = false :=
  listFits_tooMany _

theorem test_ill_varicodeDecodeBits :
    (Instr.varicodeDecodeBits (tooMany 0)).wellFormed = false :=
  listFits_tooMany _

theorem test_ill_varicodeEncodeString :
    (Instr.varicodeEncodeString (tooMany 0)).wellFormed = false :=
  listFits_tooMany _

theorem test_ill_varicodeEncodeWithPreamble :
    (Instr.varicodeEncodeWithPreamble (tooMany 0) 0).wellFormed = false :=
  listFits_tooMany _

theorem test_ill_fskdemodProcessBlock :
    (Instr.fskdemodProcessBlock (tooMany ⟨0⟩)).wellFormed = false :=
  listFits_tooMany _

theorem test_ill_pskdemodProcessBlock :
    (Instr.pskdemodProcessBlock (tooMany ⟨0⟩)).wellFormed = false :=
  listFits_tooMany _

/-! ### Decoding: words written out from R70 to R74, the first byte first -/

theorem test_decode_osc :
    decode [0x00] = .ok .oscReset [] ∧
    decode [0x01] = .ok .oscNextSample [] ∧
    decode [0x02, 0x04, 0x03, 0x02, 0x01] = .ok (.oscGenerateCount 0x01020304) [] ∧
    decode [0x03, 0x9A, 0x99, 0x19, 0x3E] = .ok (.oscGenerateDuration ⟨0x3E19999A⟩) [] ∧
    decode [0x04, 0x00, 0x00, 0x7A, 0x44] = .ok (.oscSetFrequency ⟨0x447A0000⟩) [] ∧
    decode [0x05, 0xDB, 0x0F, 0xC9, 0xBF] = .ok (.oscSetPhase ⟨0xBFC90FDB⟩) [] := by
  decide

theorem test_decode_goertzel :
    decode [0x10] = .ok .goertzelReset [] ∧
    decode [0x11, 0x00, 0x00, 0x80, 0x3F] = .ok (.goertzelProcess ⟨0x3F800000⟩) [] ∧
    decode [0x12, 2, 0, 0, 0, 0x00, 0x00, 0x80, 0x3F, 0x00, 0x00, 0x80, 0xBF] = .ok (.goertzelProcessBlock [⟨0x3F800000⟩, ⟨0xBF800000⟩]) [] := by
  decide

theorem test_decode_fskdet :
    decode [0x20] = .ok .fskdetReset [] ∧
    decode [0x21, 0xF3, 0x04, 0x35, 0x3F] = .ok (.fskdetProcess ⟨0x3F3504F3⟩) [] ∧
    decode [0x22, 1, 0, 0, 0, 0xF3, 0x04, 0x35, 0x3F] = .ok (.fskdetProcessBlock [⟨0x3F3504F3⟩]) [] := by
  decide

theorem test_decode_bpf :
    decode [0x30] = .ok .bpfReset [] ∧
    decode [0x31, 0x00, 0x00, 0x80, 0x3F] = .ok (.bpfProcess ⟨0x3F800000⟩) [] ∧
    decode [0x32, 0, 0, 0, 0] = .ok (.bpfProcessBlock []) [] ∧
    decode [0x33, 0x00, 0x00, 0x7A, 0x44] = .ok (.bpfMag ⟨0x447A0000⟩) [] ∧
    decode [0x34, 0x00, 0x00, 0x7A, 0x44] = .ok (.bpfMagDb ⟨0x447A0000⟩) [] := by
  decide

theorem test_decode_cbpf :
    decode [0x40] = .ok .cbpfReset [] ∧
    decode [0x41, 0x00, 0x00, 0x80, 0x3F] = .ok (.cbpfProcess ⟨0x3F800000⟩) [] ∧
    decode [0x42, 1, 0, 0, 0, 1, 2, 3, 4] = .ok (.cbpfProcessBlock [⟨0x04030201⟩]) [] ∧
    decode [0x43, 0x00, 0x00, 0x7A, 0x44] = .ok (.cbpfMag ⟨0x447A0000⟩) [] ∧
    decode [0x44, 0x00, 0x00, 0x7A, 0x44] = .ok (.cbpfMagDb ⟨0x447A0000⟩) [] := by
  decide

theorem test_decode_baudot :
    decode [0x50] = .ok .baudotReset [] ∧
    decode [0x51, 0x1B] = .ok (.baudotDecode 27) [] ∧
    decode [0x52, 2, 0, 0, 0, 27, 5] = .ok (.baudotDecodeCodes [27, 5]) [] ∧
    decode [0x53, 0x41, 0, 0, 0] = .ok (.baudotEncodeChar 0x41) [] ∧
    decode [0x54, 2, 0, 0, 0, 0x43, 0, 0, 0, 0xE9, 0x01, 0, 0] = .ok (.baudotEncodeString [0x43, 0x1E9]) [] ∧
    decode [0x55, 1, 0, 0, 0, 0x41, 0, 0, 0, 2, 0, 0, 0] = .ok (.baudotEncodeWithPreamble [0x41] 2) [] := by
  decide

theorem test_decode_varicode :
    decode [0x60] = .ok .varicodeReset [] ∧
    decode [0x61, 1] = .ok (.varicodeDecodeBit 1) [] ∧
    decode [0x62, 3, 0, 0, 0, 1, 0, 1] = .ok (.varicodeDecodeBits [1, 0, 1]) [] ∧
    decode [0x63, 0x65, 0, 0, 0] = .ok (.varicodeEncodeChar 0x65) [] ∧
    decode [0x64, 1, 0, 0, 0, 0x48, 0, 0, 0] = .ok (.varicodeEncodeString [0x48]) [] ∧
    decode [0x65, 1, 0, 0, 0, 0x65, 0, 0, 0, 3, 0, 0, 0] = .ok (.varicodeEncodeWithPreamble [0x65] 3) [] ∧
    decode [0x66, 0x65, 0, 0, 0] = .ok (.varicodeBitLength 0x65) [] := by
  decide

theorem test_decode_fskdemod :
    decode [0x70] = .ok .fskdemodReset [] ∧
    decode [0x71, 0x00, 0x00, 0x80, 0x3F] = .ok (.fskdemodProcessSample ⟨0x3F800000⟩) [] ∧
    decode [0x72, 1, 0, 0, 0, 0x00, 0x00, 0x80, 0x3F] = .ok (.fskdemodProcessBlock [⟨0x3F800000⟩]) [] ∧
    decode [0x73, 0x00, 0x00, 0x7A, 0x44] = .ok (.fskdemodTune ⟨0x447A0000⟩) [] ∧
    decode [0x74, 0x00, 0x00, 0x80, 0x3E] = .ok (.fskdemodSetSquelch ⟨0x3E800000⟩) [] ∧
    decode [0x75, 1] = .ok (.fskdemodSetReverse 1) [] ∧
    decode [0x76] = .ok .fskdemodGetStrength [] ∧
    decode [0x77] = .ok .fskdemodGetDetected [] := by
  decide

theorem test_decode_pskdemod :
    decode [0x80] = .ok .pskdemodReset [] ∧
    decode [0x81, 0x00, 0x00, 0x80, 0x3F] = .ok (.pskdemodProcessSample ⟨0x3F800000⟩) [] ∧
    decode [0x82, 1, 0, 0, 0, 0x00, 0x00, 0x80, 0x3F] = .ok (.pskdemodProcessBlock [⟨0x3F800000⟩]) [] ∧
    decode [0x83, 0x00, 0x80, 0xBB, 0x44] = .ok (.pskdemodTune ⟨0x44BB8000⟩) [] ∧
    decode [0x84, 0x00, 0x00, 0x80, 0x3E] = .ok (.pskdemodSetSquelch ⟨0x3E800000⟩) [] ∧
    decode [0x86] = .ok .pskdemodGetStrength [] ∧
    decode [0x87] = .ok .pskdemodGetDetected [] ∧
    decode [0x88] = .ok .pskdemodGetTimingError [] := by
  decide

/-- V-REF1, V-REF2. -/
theorem test_decode_reserved_truncated :
    decode [0x06] = .reserved 0x06 ∧ decode [0x85, 1] = .reserved 0x85 ∧
    decode [0x90] = .reserved 0x90 ∧ decode [0x04, 0, 0] = .truncated ∧
    decode [0x12, 8, 0, 0, 0, 0, 0, 0, 0] = .truncated := by
  decide

/-- The numbering of spec/opcode_table.json: an operand byte stands above the `cmd` byte. -/
theorem test_tableWord :
    decodeTableWord 8 0x01 = some .oscNextSample ∧
    decodeTableWord 16 0x1B51 = some (.baudotDecode 27) ∧
    decodeTableWord 8 0x55 = some (.baudotEncodeWithPreamble [] 0) ∧
    decodeTableWord 8 0x85 = none := by
  decide

/-- A word placed for the next step is run by it. -/
theorem test_withFetchWord :
    step (State.reset.withFetchWord 8 0x01) =
      exec .oscNextSample { State.reset with addressed := 0 } := rfl

/-! ### The inverse table of R81, row by row: character, code, table -/

def inverseA : List (U32 × Nat × CodeShift) :=
  [(7, 5, .figures), (10, 2, .both), (13, 8, .both), (32, 4, .both), (33, 13, .figures),
   (34, 17, .figures), (35, 20, .figures), (36, 9, .figures), (38, 26, .figures),
   (39, 11, .figures), (40, 15, .figures), (41, 18, .figures), (44, 12, .figures),
   (45, 3, .figures), (46, 28, .figures), (47, 29, .figures), (48, 22, .figures),
   (49, 23, .figures), (50, 19, .figures), (51, 1, .figures), (52, 10, .figures),
   (53, 16, .figures), (54, 21, .figures), (55, 7, .figures), (56, 6, .figures),
   (57, 24, .figures), (58, 14, .figures)]

def inverseB : List (U32 × Nat × CodeShift) :=
  [(59, 30, .figures), (63, 25, .figures), (65, 3, .letters), (66, 25, .letters),
   (67, 14, .letters), (68, 9, .letters), (69, 1, .letters), (70, 13, .letters),
   (71, 26, .letters), (72, 20, .letters), (73, 6, .letters), (74, 11, .letters),
   (75, 15, .letters), (76, 18, .letters), (77, 28, .letters), (78, 12, .letters),
   (79, 24, .letters), (80, 22, .letters), (81, 23, .letters), (82, 10, .letters),
   (83, 5, .letters), (84, 16, .letters), (85, 7, .letters), (86, 30, .letters),
   (87, 19, .letters), (88, 29, .letters), (89, 21, .letters), (90, 17, .letters)]

theorem test_R81 :
    ((inverseA ++ inverseB).all fun r => baudotLookup machineConfig r.1 == some r.2) = true := by
  decide +kernel

/-- No other byte is in the alphabet. -/
theorem test_R81_complete :
    ((List.range 256).all fun c =>
      (baudotLookup machineConfig (BitVec.ofNat 32 c)).isSome ==
        (inverseA ++ inverseB).any fun r => r.1 == BitVec.ofNat 32 c) = true := by
  decide +kernel

/-! ### One command on one instance -/

/-- The outcome of one command for an instance: its new state and what was answered. -/
def serve (v : Instance F64) (bytes : List Byte) : Option (Instance F64 × List OutRecord) :=
  match step ⟨[(0, v)], 0, [.command 0 bytes], []⟩ with
  | .next t => t.unit?.map fun u => (u, t.output)
  | _ => none

/-- The result of one command. -/
def answer (v : Instance F64) (bytes : List Byte) : Option Result :=
  match serve v bytes with
  | some (_, [.response _ (.done r)]) => some r
  | _ => none

/-- The reason of a refusal that left the instance as it was. -/
def refusal (v : Instance F64) (bytes : List Byte) : Option Reason :=
  match serve v bytes with
  | some (u, [.response _ (.refused reason)]) => if u = v then some reason else none
  | _ => none

/-- A number in millionths, to nearest. -/
def millionths (x : Dyadic) : Int :=
  let m := x.mant * 1000000
  let r : Int := if 0 ≤ x.exp then (m <<< x.exp.toNat : Nat)
    else ((m + 2 ^ ((-x.exp).toNat - 1)) >>> (-x.exp).toNat : Nat)
  if x.neg then -r else r

def micro (x : F64) : Int := millionths x.toDyadic

/-- The numbers of a result in millionths. -/
def answerMicro (v : Instance F64) (bytes : List Byte) : Option (List Int) :=
  match answer v bytes with
  | some (.f32 y) => some [millionths y.toDyadic]
  | some (.listF32 ys) => some (ys.map fun y => millionths y.toDyadic)
  | some (.optF32 y) => some (y.toList.map fun y => millionths y.toDyadic)
  | _ => none

def hz (n : Int) : F64 := b64.int n

def osc8k : Osc F64 := initOsc machineConfig ⟨hz 8000, hz 1000⟩

def det8k : Fskdet F64 := initFskdet machineConfig ⟨hz 8000, hz 1000, hz 2000, 8⟩

def band8k : BpfParams F64 := ⟨hz 8000, hz 900, hz 1100⟩

def bpf8k : Instance F64 := .bpf (initBpf machineConfig band8k)

def cbpf8k : Instance F64 := .cbpf (initCbpf machineConfig ⟨band8k, 2⟩)

/-- FSKDEMOD with 4 samples a bit: STEP = 1, W = 2. -/
def fskSmall : FskDemod F64 :=
  initFsk machineConfig ⟨hz 8000, hz 2000, hz 1000, hz 1000, true, b64.ratio 3 10⟩

/-- PSKDEMOD with 2 samples a symbol. -/
def pskSmall : PskDemod F64 := initPsk machineConfig ⟨hz 8000, hz 4000, hz 1000, .bpsk⟩

/-- V-OSC2. -/
theorem test_osc_generateCount :
    answerMicro (.osc osc8k) [0x02, 3, 0, 0, 0] = some [0, 707107, 1000000] := by
  decide +kernel

/-- V-OSC9, the second sample. -/
theorem test_osc_nextSample :
    answerMicro (.osc { osc8k with freq := hz (-1000), phase := b64.ratio 5497787 1000000 })
      [0x01] = some [-707107] := by
  decide +kernel

/-- V-OSC4. -/
theorem test_osc_setPhase :
    ((serve (.osc osc8k) [0x05, 0xDB, 0x0F, 0xC9, 0xBF]).bind fun p =>
      (Instance.osc? p.1).map fun u => micro u.phase) = some 4712389 := by
  decide +kernel

/-- V-OSC7: no sample for a duration of -1. -/
theorem test_osc_generateDuration :
    answer (.osc osc8k) [0x03, 0, 0, 0x80, 0xBF] = some (.listF32 []) := by
  decide +kernel

/-- V-OSC10: NaN, +∞, 1e6 seconds. -/
theorem test_osc_refused :
    refusal (.osc osc8k) [0x04, 0, 0, 0xC0, 0x7F] = some .nonFinite ∧
    refusal (.osc osc8k) [0x03, 0, 0, 0x80, 0x7F] = some .nonFinite ∧
    refusal (.osc osc8k) [0x03, 0x00, 0x24, 0x74, 0x49] = some .tooLong := by
  decide +kernel

/-- V-GOE2e: N = 1. -/
theorem test_goertzel_process :
    answerMicro (.goertzel (initGoertzel machineConfig ⟨hz 8000, hz 1000, 1⟩))
      [0x11, 0, 0, 0, 0x3F] = some [1000000] := by
  decide +kernel

/-- V-GOE2c, V-REF7: the length is tested before the elements. -/
theorem test_goertzel_refused :
    refusal (.goertzel (initGoertzel machineConfig ⟨hz 8000, hz 1000, 8⟩))
      [0x12, 1, 0, 0, 0, 0, 0, 0xC0, 0x7F] = some .blockSizeMismatch := by
  decide +kernel

/-- V-GOE4. -/
theorem test_correlation :
    let c (a b : Int) (q : Nat) := micro (correlation machineConfig (b64.ratio a q) (b64.ratio b q))
    c 1 0 1 = 1000000 ∧ c 0 1 4 = -1000000 ∧ c 1 1 1 = 0 ∧ c 4 5 100000000000 = 0 ∧
    c 6 5 100000000000 = 90909 := by
  decide +kernel

/-- V-DET1, the first block (the sine of V-GOE1). -/
theorem test_fskdet_processBlock :
    answerMicro (.fskdet det8k)
      [0x22, 8, 0, 0, 0, 0, 0, 0, 0, 0xF3, 0x04, 0x35, 0x3F, 0, 0, 0x80, 0x3F,
        0xF3, 0x04, 0x35, 0x3F, 0, 0, 0, 0, 0xF3, 0x04, 0x35, 0xBF, 0, 0, 0x80, 0xBF,
        0xF3, 0x04, 0x35, 0xBF] = some [1000000] := by
  decide +kernel

/-- V-BPF3. -/
theorem test_bpf_processBlock :
    answerMicro bpf8k
      [0x32, 5, 0, 0, 0, 0, 0, 0x80, 0x3F, 0, 0, 0, 0, 0, 0, 0, 0, 0, 0, 0, 0, 0, 0, 0, 0] =
      some [66041, 87228, -8147, -86467, -107137] := by
  decide +kernel

/-- V-BPF2 at 900 Hz. -/
theorem test_bpf_mag : answerMicro bpf8k [0x33, 0, 0, 0x61, 0x44] = some [652739] := by
  decide +kernel

/-- V-BPF5 at 0 Hz: the floor. -/
theorem test_bpf_magDb : answerMicro bpf8k [0x34, 0, 0, 0, 0] = some [-400000000] := by
  decide +kernel

/-- V-CBP2, the first sample. -/
theorem test_cbpf_process : answerMicro cbpf8k [0x41, 0, 0, 0x80, 0x3F] = some [4361] := by
  decide +kernel

/-- V-CBP1 at 900 Hz. -/
theorem test_cbpf_mag : answerMicro cbpf8k [0x43, 0, 0, 0x61, 0x44] = some [426068] := by
  decide +kernel

/-- V-BAU2: "A1B". -/
theorem test_baudot_encodeString :
    answer (.baudot ⟨false⟩) [0x54, 3, 0, 0, 0, 0x41, 0, 0, 0, 0x31, 0, 0, 0, 0x42, 0, 0, 0] =
      some (.listU8 [3, 27, 23, 31, 25]) := by
  decide +kernel

/-- V-BAU5: an unsupported character. -/
theorem test_baudot_encodeChar :
    answer (.baudot ⟨false⟩) [0x53, 0, 0, 0x11, 0] = some (.supportedCodes false [4]) := by
  decide +kernel

/-- V-BAU6. -/
theorem test_baudot_preamble :
    serve (.baudot ⟨true⟩) [0x55, 1, 0, 0, 0, 0x41, 0, 0, 0, 2, 0, 0, 0] =
      some (.baudot ⟨false⟩, [.response 0 (.done (.listU8 [31, 31, 3]))]) := by
  decide +kernel

/-- V-BAU8: 0xE3 masked to 3. -/
theorem test_baudot_decode :
    answer (.baudot ⟨false⟩) [0x51, 0xE3] = some (.optU8 (some 0x41)) := by
  decide +kernel

/-- V-BAU10. -/
theorem test_baudot_decodeCodes :
    answer (.baudot ⟨false⟩) [0x52, 4, 0, 0, 0, 27, 5, 31, 5] = some (.listU8 [0x07, 0x53]) := by
  decide +kernel

/-- V-VAR1: NUL. -/
theorem test_varicode_encodeChar :
    answer (.varicode ⟨0, false⟩) [0x63, 0, 0, 0, 0] =
      some (.optListU8 (some [1, 0, 1, 0, 1, 0, 1, 0, 1, 1, 0, 0])) := by
  decide +kernel

/-- V-VAR2: "Hi". -/
theorem test_varicode_encodeString :
    answer (.varicode ⟨0, false⟩) [0x64, 2, 0, 0, 0, 0x48, 0, 0, 0, 0x69, 0, 0, 0] =
      some (.listU8 [1, 0, 1, 0, 1, 0, 1, 0, 1, 0, 0, 1, 1, 0, 1, 0, 0]) := by
  decide +kernel

/-- V-VAR7, to the first gap: eleven 1s are dropped. -/
theorem test_varicode_overflow :
    serve (.varicode ⟨0, false⟩) [0x62, 13, 0, 0, 0, 1, 1, 1, 1, 1, 1, 1, 1, 1, 1, 1, 0, 0] =
      some (.varicode ⟨0, false⟩, [.response 0 (.done (.listU8 []))]) := by
  decide +kernel

/-- V-VAR3: `H`. -/
theorem test_varicode_bitLength :
    answer (.varicode ⟨0, false⟩) [0x66, 0x48, 0, 0, 0] = some (.u32 11) := by
  decide +kernel

/-- V-FSK1. -/
theorem test_agc :
    let g (gain y : F64) := micro (agcGain machineConfig gain (b64.mul y gain))
    g (hz 1) (b64.ratio 8 10) = 990000 ∧ g (hz 1) (b64.ratio 3 10) = 1000100 ∧
    g (b64.ratio 1 10) (hz 9) = 100000 ∧ g (hz 10) (b64.ratio 1 100) = 10000000 ∧
    g (hz 1) (b64.ratio 5 10) = 1000100 := by
  decide +kernel

/-- V-FSK5. -/
theorem test_confidence :
    let c (p : Int) := micro (fskConfidence machineConfig (b64.ratio p 100))
    c 0 = 0 ∧ c (-20) = 0 ∧ c 26 = 200000 ∧ c (-35) = 500000 ∧ c 50 = 1000000 ∧
    c (-100) = 1000000 := by
  decide +kernel

/-- V-FSK2: 48000 Hz and 45.45 baud. -/
theorem test_fsk_derived :
    let p := rttyStandard b64 (hz 48000)
    p.spb machineConfig = 1056 ∧ p.step machineConfig = 264 ∧ p.window machineConfig = 528 := by
  decide +kernel

/-- V-FSM1: the character A. -/
theorem test_fsm_character :
    fskDrive machineConfig (b64.ratio 3 100)
        ((List.replicate 3 (b64.ratio (-9) 10)) ++ List.replicate 8 (b64.ratio 9 10) ++
          List.replicate 12 (b64.ratio (-9) 10) ++ List.replicate 3 (b64.ratio 9 10))
        { fskSmall with strength := b64.one } =
      ({ fskSmall with strength := b64.one, corr := b64.ratio 9 10 },
        [.decode 0x41 ⟨0x447A0000⟩]) := by
  decide +kernel

/-- V-FSM5: a false start. -/
theorem test_fsm_falseStart :
    (fskDrive machineConfig (b64.ratio 3 100)
      [b64.ratio 9 10, b64.ratio (-5) 10, b64.ratio 1 10, b64.ratio 9 10] fskSmall).1.phase =
      .waitingForStart := by
  decide +kernel

/-- V-FSK7 at 8000 Hz and a shift of 1000 Hz: below the lower edge, above the upper, legal. -/
theorem test_fsk_tune :
    refusal (.fskdemod fskSmall) [0x73, 0, 0, 0x20, 0x42] = some .invalidConfiguration ∧
    refusal (.fskdemod fskSmall) [0x73, 0, 0x80, 0x3B, 0x45] = some .invalidConfiguration ∧
    refusal (.fskdemod fskSmall) [0x73, 0, 0, 0xC0, 0x7F] = some .nonFinite ∧
    answer (.fskdemod fskSmall) [0x73, 0x00, 0x80, 0xBB, 0x44] = some .none := by
  decide +kernel

/-- V-FSK6b: the retune waits for `WaitingForStart`. -/
theorem test_fsk_retune :
    let u : FskDemod F64 := { fskSmall with afcSmooth := b64.ratio 6775 1000 }
    micro (fskRetune machineConfig u).afcOffset = 6775000 ∧
    fskRetune machineConfig { u with phase := .receivingData } =
      { u with phase := .receivingData } := by
  decide +kernel

/-- V-PSK4, in degrees. -/
theorem test_qpsk_region :
    (([0, 44, 46, 90, 134, 136, 180, 224, 226, 270, 314, 316, 359] : List Int).map fun d =>
      qpskRegion machineConfig (b64.div (b64.mul (hz d) b64.pi) (hz 180))) =
      [0, 0, 1, 1, 1, 2, 2, 2, 3, 3, 3, 0, 0] := by
  decide +kernel

/-- V-PSK5. -/
theorem test_bpsk_bit :
    let s (i q : Int) : PskSymbol F64 := ⟨b64.ratio i 1000000, b64.ratio q 1000000, hz 0, hz 0⟩
    let u (i q : Int) : PskDemod F64 :=
      { pskSmall with prevI := b64.ratio i 1000000, prevQ := b64.ratio q 1000000 }
    bpskBits machineConfig (u 485519 41651) (s (-184130) 143001) = [true] ∧
    bpskBits machineConfig (u 489178 (-8965)) (s 499628 (-308)) = [false] ∧
    bpskBits machineConfig (u 0 0) (s 499628 (-308)) = [false] := by
  decide +kernel

/-- V-PSK6b: all the energy late. -/
theorem test_psk_timing :
    micro (pskTiming machineConfig { pskSmall with lateI := b64.ratio 45 10 }).timingError =
      1000000 := by
  decide +kernel

/-- V-PSK6c at the upper edge. -/
theorem test_psk_tune :
    refusal (.pskdemod pskSmall) [0x83, 0, 0, 0x7A, 0x45] = some .invalidConfiguration := by
  decide +kernel

/-- V-REF4: one bad sample refuses the whole block. -/
theorem test_fsk_block_refused :
    refusal (.fskdemod fskSmall)
      [0x72, 2, 0, 0, 0, 0xCD, 0xCC, 0xCC, 0x3D, 0, 0, 0xC0, 0x7F] = some .nonFinite := by
  decide +kernel

/-- The serialised forms of R72, R75 and R301. -/
theorem test_response_bytes :
    (Response.done (.events [.decode 0x41 ⟨0x447A0000⟩, .signal true ⟨0x447A0000⟩])).bytes =
      [2, 0, 0, 0, 1, 0x41, 0x00, 0x00, 0x7A, 0x44, 2, 1, 0x00, 0x00, 0x7A, 0x44] ∧
    (Response.refused .tooLong).bytes = [0xFF, 6] ∧
    (Response.done (.optListU8 (some [1, 0]))).bytes = [1, 2, 0, 0, 0, 1, 0] ∧
    (Response.done (.supportedCodes true [27, 23])).bytes = [1, 2, 0, 0, 0, 27, 23] := by
  decide +kernel

/-! ### Witnesses: the hypotheses of the statements can be met -/

def given (input : List Request) : State := { State.reset with input := input }

def atUnit (id : Nat) : State := { State.reset with addressed := id }

def nan : F32 := ⟨0x7FC00000⟩

def infinity : F32 := ⟨0x7F800000⟩

/-- The largest finite binary32 number and the least positive one. -/
def largest : F32 := ⟨0x7F7FFFFF⟩

def least : F32 := ⟨0x00000001⟩

def resetOsc : Osc F64 := initOsc machineConfig ⟨hz 48000, hz 1000⟩

def resetGoertzel : Goertzel F64 := initGoertzel machineConfig ⟨hz 48000, hz 2125, 528⟩

def resetFskdet : Fskdet F64 := initFskdet machineConfig ⟨hz 48000, hz 2125, hz 2295, 528⟩

def resetBpf : Bpf F64 := initBpf machineConfig ⟨hz 48000, hz 2075, hz 2345⟩

def resetCbpf : Cbpf F64 := initCbpf machineConfig ⟨⟨hz 48000, hz 2075, hz 2345⟩, 2⟩

def resetFsk : FskDemod F64 := initFsk machineConfig (rttyStandard b64 (hz 48000))

def resetPsk : PskDemod F64 := initPsk machineConfig (psk31 b64 (hz 48000) (hz 1000))

/-- Every unit kind is addressed in some state: the hypothesis of the statements about its
operations. -/
theorem witness_units :
    (atUnit 0).unit? = some (.osc resetOsc) ∧ (atUnit 1).unit? = some (.goertzel resetGoertzel) ∧
    (atUnit 2).unit? = some (.fskdet resetFskdet) ∧ (atUnit 3).unit? = some (.bpf resetBpf) ∧
    (atUnit 4).unit? = some (.cbpf resetCbpf) ∧ (atUnit 5).unit? = some (.baudot ⟨false⟩) ∧
    (atUnit 6).unit? = some (.varicode ⟨0, false⟩) ∧
    (atUnit 7).unit? = some (.fskdemod resetFsk) ∧
    (atUnit 8).unit? = some (.pskdemod resetPsk) :=
  ⟨rfl, rfl, rfl, rfl, rfl, rfl, rfl, rfl, rfl⟩

/-- A legal band, V-BPF7's illegal ones, and the least number of samples per bit and one fewer. -/
theorem witness_Instantiation :
    (given [.instantiate 9 (.bpf band8k)]).input = .instantiate 9 (.bpf band8k) :: [] ∧
    (let q := band8k
     let N := b64
     q.fs.isFinite = true ∧ q.low.isFinite = true ∧ q.high.isFinite = true ∧
       N.lt N.zero q.fs = true ∧ N.lt N.zero q.low = true ∧ N.lt q.low q.high = true ∧
       N.lt q.high (N.div q.fs (N.int 2)) = true ∧
       N.lt N.zero (hz 0) = false ∧ N.lt (hz 4000) (N.div q.fs (N.int 2)) = false ∧
       4 ≤ N.floor (N.div q.fs (hz 2000)) ∧ ¬ 4 ≤ N.floor (N.div q.fs (hz 2001))) := by
  refine ⟨rfl, ?_⟩
  decide +kernel

theorem witness_DiscardAndIdle :
    (given [.discard 0]).input = .discard 0 :: [] ∧ (given [.discard 0]).Inv = true ∧
    (given []).input = [] := by
  refine ⟨rfl, ?_, rfl⟩
  decide +kernel

theorem witness_StepRunsDecoded :
    let i : Instr := .oscSetPhase ⟨0x3F800000⟩
    (∀ left, (given [.command 0 (encode i ++ left)]).input = .command 0 (encode i ++ left) :: []) ∧
    (∀ left, lookupInstance 0 (given [.command 0 (encode i ++ left)]).instances =
      some (.osc resetOsc)) ∧
    i.wellFormed = true ∧ i.unit = (Instance.osc resetOsc).kind :=
  ⟨fun _ => rfl, fun _ => rfl, rfl, rfl⟩

/-- V-REF1 and V-REF2: a reserved operation, a command of another unit (complete or not), a truncated
one. -/
theorem witness_ReservedOrTruncatedRefused :
    lookupInstance 0 (given [.command 0 [0x06]]).instances = some (.osc resetOsc) ∧
    decode [0x06] = .reserved 0x06 ∧
    unitNumber 0x11 ≠ UnitKind.osc.number ∧ decode [0x11] = .truncated ∧
    unitNumber 0x04 = UnitKind.osc.number ∧ decode [0x04, 0, 0] = .truncated := by
  refine ⟨rfl, ?_⟩
  decide

/-- The longest list that is well formed. -/
theorem witness_DecodeEncode :
    (Instr.baudotDecodeCodes (List.replicate (2 ^ 32 - 1) 0)).wellFormed = true := by
  simp only [Instr.wellFormed, listFits, List.length_replicate]
  decide

theorem witness_EncodeDecode : decode [0x51, 0x1B, 9] = .ok (.baudotDecode 27) [9] := by
  decide

theorem witness_PrefixTruncated :
    (Instr.baudotDecode 27).wellFormed = true ∧ 1 < (encode (.baudotDecode 27)).length ∧
    0 < (encode .oscReset).length := by
  decide

theorem witness_CommandsAreTotal :
    (atUnit 0).unit? ≠ none ∧ (given [.command 0 [0x01]]).served = true ∧
    (given [.command 9 [0x01]]).served = false := by
  decide +kernel

/-- Finite operands to the ends of the format; durations of 0 and of the least positive number. -/
theorem witness_OscOperations :
    largest.isFinite = true ∧ least.isFinite = true ∧
    b64.le (b64.ofF32 ⟨0⟩) b64.zero = true ∧ b64.le (b64.ofF32 least) b64.zero = false ∧
    durationCount machineConfig (b64.ofF32 least) resetOsc.par.fs < 2 ^ 32 := by
  decide +kernel

/-- The first sample and the last of a block. -/
theorem witness_GoertzelOperations :
    resetGoertzel.acc.n + 1 ≠ resetGoertzel.par.n ∧
    ({ resetGoertzel with acc := ⟨b64.zero, b64.zero, 527⟩ } : Goertzel F64).acc.n + 1 =
      resetGoertzel.par.n ∧
    (List.replicate 528 largest).length = resetGoertzel.par.n ∧
    (∀ x ∈ List.replicate 528 largest, x.isFinite = true) := by
  refine ⟨by decide, by decide, List.length_replicate, fun x hx => ?_⟩
  rw [List.eq_of_mem_replicate hx]
  decide

theorem witness_FskdetOperations :
    resetFskdet.m.n = resetFskdet.s.n ∧ resetFskdet.m.n + 1 ≠ resetFskdet.par.n ∧
    (527 : Nat) + 1 = resetFskdet.par.n ∧
    (List.replicate 528 largest).length = resetFskdet.par.n :=
  ⟨rfl, by decide, rfl, List.length_replicate⟩

/-- The two shift codes, and codes on either side of them. -/
theorem witness_BaudotOperations :
    (31 : Byte).toNat % 32 = 31 ∧ (0xFB : Byte).toNat % 32 = 27 ∧
    (30 : Byte).toNat % 32 ≠ 31 ∧ (30 : Byte).toNat % 32 ≠ 27 ∧
    (baudotEncodeRun machineConfig [0x41] ⟨true⟩).2.length < 2 ^ 32 ∧
    (2 ^ 32 - 2) + (baudotEncodeRun machineConfig [0x41] ⟨false⟩).2.length < 2 ^ 32 := by
  decide +kernel

/-- A character of each table, of both and of none, and the ends of the range that `upper` folds. -/
theorem witness_BaudotEncodeCharCases :
    upper 0x60 = 0x60 ∧ upper 0x61 = 0x41 ∧ upper 0x7A = 0x5A ∧ upper 0x7B = 0x7B ∧
    baudotLookup machineConfig (upper 0x7E) = none ∧
    baudotLookup machineConfig (upper 0x20) = some (4, .both) ∧
    baudotLookup machineConfig (upper 0x61) = some (3, .letters) ∧
    baudotLookup machineConfig (upper 0x31) = some (23, .figures) := by
  decide +kernel

theorem witness_VaricodeOperations :
    (varicodeEncodeRun machineConfig [0x48]).length < 2 ^ 32 ∧
    (2 ^ 32 - 12) + (varicodeEncodeRun machineConfig [0x48]).length < 2 ^ 32 := by
  decide +kernel

/-- The idle case, a bit that completes no gap, one that does. -/
theorem witness_VaricodeDecodeBitCases :
    ((⟨0, false⟩ : Varicode).acc = 0 ∧ (⟨0, false⟩ : Varicode).ovf = false ∧ false = false) ∧
    ¬ ((0 : Nat) = 0 ∧ false = false ∧ true = false) ∧
    (2 * 0 + 1) % 2 ^ machineConfig.vAccBits % 4 ≠ 0 ∧
    (2 * 4094 + 0) % 2 ^ machineConfig.vAccBits % 4 = 0 := by
  decide

theorem witness_FskdemodOperations :
    let N := b64
    let fm := N.ofF32 ⟨0x447A0000⟩
    let fsp := N.add fm resetFsk.par.shift
    N.lt N.zero (N.sub (N.min fm fsp) machineConfig.bpfMarginHz) = true ∧
    N.lt (N.add (N.max fm fsp) machineConfig.bpfMarginHz) (N.div resetFsk.par.fs (N.int 2)) =
      true := by
  decide +kernel

/-- The first sample of a step and the last. -/
theorem witness_FskSampleBetweenSteps :
    let spb := (b64.floor (b64.div resetFsk.par.fs resetFsk.par.baud)).toNat
    resetFsk.sampleCount + 1 ≠ spb / machineConfig.stepsPerBit ∧
    ({ resetFsk with sampleCount := 263 } : FskDemod F64).sampleCount + 1 =
      spb / machineConfig.stepsPerBit := by
  decide +kernel

theorem witness_PskdemodOperations :
    b64.lt b64.zero (b64.ofF32 least) = true ∧
    b64.lt (b64.ofF32 least) (b64.div resetPsk.par.fs (b64.int 2)) = true := by
  decide +kernel

/-- The first sample of a symbol and the last. -/
theorem witness_PskSampleInsideSymbol :
    let S := (b64.floor (b64.div resetPsk.par.fs resetPsk.par.baud)).toNat
    resetPsk.n + 1 ≠ S ∧ ({ resetPsk with n := 1535 } : PskDemod F64).n + 1 = S := by
  decide +kernel

theorem witness_NonFiniteRefused :
    nan.isFinite = false ∧ infinity.isFinite = false ∧
    (∃ x ∈ largest :: List.replicate 527 nan, x.isFinite = false) ∧
    (largest :: List.replicate 527 nan).length = resetGoertzel.par.n ∧
    (largest :: List.replicate 527 nan).length = resetFskdet.par.n :=
  ⟨by decide, by decide,
    ⟨nan, List.mem_cons_of_mem _ (List.mem_replicate.2 ⟨by decide, rfl⟩), by decide⟩,
    congrArg (· + 1) List.length_replicate, congrArg (· + 1) List.length_replicate⟩

/-- One sample short, one too many, and the exact length (witness_GoertzelOperations). -/
theorem witness_BlockLengths :
    (List.replicate 527 nan).length ≠ resetGoertzel.par.n ∧
    (List.replicate 529 least).length ≠ resetFskdet.par.n := by
  simp only [List.length_replicate]
  decide

theorem baudot_length (text : List U32) (u : Baudot) :
    text.length ≤ (baudotEncodeRun machineConfig text u).2.length := by
  induction text generalizing u with
  | nil => exact Nat.le_refl _
  | cons c text ih =>
    have h1 : 1 ≤ (baudotEncodeOne machineConfig u c).2.length := by
      unfold baudotEncodeOne baudotEmit
      split
      · split <;> simp
      · split <;> simp
      · simp
    have h2 := ih (baudotEncodeOne machineConfig u c).1
    simp only [baudotEncodeRun, List.length_append, List.length_cons]
    omega

/-- V-REF6; texts of 2³² characters; the least preambles that are too long. -/
theorem witness_TooLongRefused :
    (⟨0x49742400⟩ : F32).isFinite = true ∧
    2 ^ 32 ≤ durationCount machineConfig (b64.ofF32 ⟨0x49742400⟩) resetOsc.par.fs ∧
    2 ^ 32 ≤ (baudotEncodeRun machineConfig (tooMany 0x41) ⟨false⟩).2.length ∧
    2 ^ 32 ≤ (0xFFFFFFFF : U32).toNat + (baudotEncodeRun machineConfig [0x41] ⟨false⟩).2.length ∧
    2 ^ 32 ≤ (varicodeEncodeRun machineConfig (tooMany 0x20)).length ∧
    2 ^ 32 ≤ (0xFFFFFFFD : U32).toNat + (varicodeEncodeRun machineConfig [0x20]).length := by
  refine ⟨by decide, by decide +kernel, ?_, by decide +kernel, ?_, by decide +kernel⟩
  · have h := baudot_length (tooMany 0x41) ⟨false⟩
    simpa only [tooMany, List.length_replicate] using h
  · have h1 : ((varicodeEncodeOne machineConfig 0x20).getD []).length = 3 := by decide +kernel
    have h2 : ∀ n, (varicodeEncodeRun machineConfig (List.replicate n 0x20)).length = 3 * n := by
      intro n
      induction n with
      | zero => rfl
      | succ n ih =>
        simp only [varicodeEncodeRun, List.replicate_succ, List.flatMap_cons, List.length_append] at *
        rw [h1, ih]
        omega
    rw [tooMany, h2]
    omega

/-- Below the lower edge (1 Hz) and at the upper edge (23780 + 170 + 50 = 24000 Hz) of FSKDEMOD; 0 Hz
and half the sample rate for PSKDEMOD. -/
theorem witness_InvalidTuneRefused :
    (let x := b64.ofF32 ⟨0x3F800000⟩
     b64.lt b64.zero
       (b64.sub (b64.min x (b64.add x resetFsk.par.shift)) machineConfig.bpfMarginHz) = false) ∧
    (let x := b64.ofF32 ⟨0x46B9C800⟩
     b64.lt (b64.add (b64.max x (b64.add x resetFsk.par.shift)) machineConfig.bpfMarginHz)
       (b64.div resetFsk.par.fs (b64.int 2)) = false) ∧
    b64.lt b64.zero (b64.ofF32 ⟨0⟩) = false ∧
    b64.lt (b64.ofF32 ⟨0x46BB8000⟩) (b64.div resetPsk.par.fs (b64.int 2)) = false := by
  decide +kernel

/-- Two states that differ in an instance that is not addressed. -/
theorem witness_InstancesIsolated :
    (atUnit 0).addressed = ((atUnit 0).discard 1).addressed ∧
    (atUnit 0).unit? = ((atUnit 0).discard 1).unit? ∧ (atUnit 0).unit? ≠ none := by
  decide +kernel

theorem witness_CommandsCommute :
    State.reset.Inv = true ∧ (0 : Nat) ≠ 1 ∧
    ∃ s1 s2 t1 t2,
      exec .oscReset { State.reset with addressed := 0 } = .next s1 ∧
      exec .goertzelReset { s1 with addressed := 1 } = .next s2 ∧
      exec .goertzelReset { State.reset with addressed := 1 } = .next t1 ∧
      exec .oscReset { t1 with addressed := 0 } = .next t2 :=
  ⟨by decide +kernel, by decide, _, _, _, _, rfl, rfl, rfl, rfl⟩

/-- Instances of the two unit kinds whose RESET keeps something, in a state that is not fresh. -/
theorem witness_ResetIsFresh :
    let u : Osc F64 := { resetOsc with phase := hz 1, freq := hz 2 }
    let v : FskDemod F64 := { fskSmall with reverse := true, detected := true, gain := hz 2 }
    (State.unit? ⟨[(0, .osc u)], 0, [], []⟩) = some (.osc u) ∧
    (Instance.osc u).wf machineConfig = true ∧
    (State.unit? ⟨[(0, .fskdemod v)], 0, [], []⟩) = some (.fskdemod v) ∧
    (Instance.fskdemod v).wf machineConfig = true := by
  decide +kernel

theorem witness_TuneIsFresh :
    (⟨0x447A0000⟩ : F32).isFinite = true ∧ (Instance.fskdemod resetFsk).wf machineConfig = true ∧
    (let N := b64
     let fm := N.ofF32 ⟨0x447A0000⟩
     let fsp := N.add fm resetFsk.par.shift
     N.lt N.zero (N.sub (N.min fm fsp) machineConfig.bpfMarginHz) = true ∧
     N.lt (N.add (N.max fm fsp) machineConfig.bpfMarginHz) (N.div resetFsk.par.fs (N.int 2)) =
       true) ∧
    b64.lt b64.zero (b64.ofF32 ⟨0x447A0000⟩) = true ∧
    b64.lt (b64.ofF32 ⟨0x447A0000⟩) (b64.div resetPsk.par.fs (b64.int 2)) = true := by
  decide +kernel

/-- A step that changes an instance. -/
theorem witness_InvKept :
    (given [.command 7 [0x75, 1]]).Inv = true ∧
    ∃ t, step (given [.command 7 [0x75, 1]]) = .next t ∧
      lookupInstance 7 t.instances = some (.fskdemod { resetFsk with reverse := true }) :=
  ⟨by decide +kernel, _, rfl, rfl⟩

/-- The longest run there is, in two parts, and a run of one sample before another. -/
theorem witness_OscRunsJoin :
    (0xFFFFFFFF : U32).toNat + (0 : U32).toNat < 2 ^ 32 ∧
    (1 : U32).toNat + (0xFFFFFFFE : U32).toNat < 2 ^ 32 := by
  decide

theorem witness_blocks : ∀ x ∈ [largest] ++ [least, largest], x.isFinite = true := by
  decide

theorem witness_ProcessFillsBlock : [hz 1, hz 2].length + 1 = 3 := rfl

theorem witness_CodeTables :
    (baudotTable machineConfig false)[4]? = some (some 0x20) ∧
    (baudotTable machineConfig true)[4]? = some (some 0x20) ∧ (127 : U32).toNat < 128 := by
  decide

theorem witness_VaricodeTexts : ∀ c ∈ ([0, 0x65, 127] : List U32), c.toNat < 128 := by
  simp only [List.forall_mem_cons, List.not_mem_nil, false_imp_iff, implies_true, and_true]
  decide

/-- V-FSM1 over the reals. -/
noncomputable def realFsk (r : ℝ → F32) : FskDemod ℝ :=
  { initFsk (exactConfig r) ⟨8000, 2000, 1000, 1000, true, 3 / 10⟩ with strength := 1 }

theorem witness_FskFrameReceived (r : ℝ → F32) :
    let u := realFsk r
    let c : Fin 26 → ℝ := fun i => if i.val < 5 then -1 else 1
    u.phase = .waitingForStart ∧ u.bitIndex = 0 ∧ u.code = 0 ∧ u.minConf = 1 ∧
    c 0 < -0.2 ∧ c 1 < 0 ∧ 0.2 < c 25 ∧ 0.03 ≤ u.strength ∧ u.par.minConfidence ≤ 1 ∧
    (∀ b : Fin 5,
      u.par.minConfidence ≤ fskConfidence (exactConfig r) (c ⟨5 + 4 * b.val, by omega⟩)) := by
  refine ⟨rfl, rfl, rfl, ?_, ?_, ?_, ?_, ?_, ?_, ?_⟩
  · simp [realFsk, initFsk]
  · norm_num
  · norm_num
  · norm_num [show ((25 : Fin 26).val) = 25 from rfl]
  · norm_num [realFsk]
  · norm_num [realFsk, initFsk]
  · intro b
    have hb : ¬ (5 + 4 * b.val < 5) := by omega
    simp only [hb, if_false, realFsk, initFsk, fskConfidence]
    simp
    norm_num

/-- The correlations of R213's example, from waiting (0.9, −0.5) and at 75 % of the start bit (0.1,
−0.5); the start bit's last step; the ticks of a data bit, the fourth of five and the last, with a
positive, a zero and a negative correlation; the three ways a frame fails: its stop bit, the squelch,
the confidence; and a frame that passes. -/
theorem witness_FskFrameDropped :
    (let N := b64
     fskSmall.phase = .waitingForStart ∧
     N.lt (N.ratio 9 10) (N.neg machineConfig.thresh) = false ∧
     N.lt (N.neg machineConfig.thresh) (N.neg machineConfig.thresh) = false ∧
     N.lt (N.ratio (-5) 10) (N.neg machineConfig.thresh) = true ∧
     N.lt (N.ratio 1 10) N.zero = false ∧ N.lt N.zero N.zero = false ∧
     N.lt (N.ratio (-5) 10) N.zero = true ∧
     2 + 1 = machineConfig.sampleTick ∧ 3 + 1 ≠ machineConfig.sampleTick ∧
     3 + 1 = machineConfig.stepsPerBit ∧
     (∀ t : Fin 2, t.val + 1 ≠ machineConfig.sampleTick ∧ t.val + 1 ≠ machineConfig.stepsPerBit) ∧
     ({ fskSmall with phase := .receivingData, tick := 3, bitIndex := 4 } : FskDemod F64).bitIndex = 4 ∧
     ({ fskSmall with phase := .receivingData, tick := 3, bitIndex := 3 } : FskDemod F64).bitIndex ≠ 4 ∧
     N.lt N.zero (N.ratio 9 10) = true ∧ N.lt N.zero (N.ratio (-9) 10) = false) ∧
    let u : FskDemod F64 := { fskSmall with phase := .inStopBits, tick := 2, bitIndex := 4 }
    u.phase = .inStopBits ∧ u.tick + 1 = machineConfig.sampleTick ∧
    b64.lt machineConfig.thresh u.corr = false ∧
    b64.le (b64.ratio 3 100) u.strength = false ∧
    b64.le u.par.minConfidence ({ u with minConf := b64.ratio 2 10 } : FskDemod F64).minConf =
      false ∧
    let w : FskDemod F64 := { u with corr := b64.ratio 9 10, strength := b64.one }
    w.phase = .inStopBits ∧ w.tick + 1 = machineConfig.sampleTick ∧
    b64.lt machineConfig.thresh w.corr = true ∧ b64.le (b64.ratio 3 100) w.strength = true ∧
    b64.le w.par.minConfidence w.minConf = true := by
  decide +kernel

/-- A sample that moves the effective frequency (V-FSK6b, one step a sample, filters at rest). -/
theorem witness_FskSettingsKept :
    let u : FskDemod F64 := { fskSmall with afcSmooth := b64.ratio 6775 1000 }
    (fskSample machineConfig u b64.zero).1.afcOffset ≠ u.afcOffset := by
  decide +kernel

theorem witness_FskRealRangesKept (r : ℝ → F32) :
    (realFsk r).realRanges (exactConfig r) := by
  refine ⟨?_, ?_, ?_, ?_, ?_, ?_, ?_, ?_, ?_, ?_, ?_, ?_⟩ <;>
    simp [realFsk, initFsk]
  all_goals norm_num [exactConfig, defaultConfig]

noncomputable def realPsk (r : ℝ → F32) : PskDemod ℝ :=
  initPsk (exactConfig r) ⟨8000, 250, 1000, .bpsk⟩

theorem witness_PskRealRangesKept (r : ℝ → F32) : (realPsk r).realRanges (exactConfig r) := by
  refine ⟨?_, ?_, ?_, ?_, ?_, ?_, ?_, ?_, ?_, ?_⟩ <;> simp [realPsk, initPsk]
  positivity

/-- The machine's register of 12 bits. -/
theorem witness_PskEvents : 0 < machineConfig.vAccBits := by decide

/-- The boundaries of the QPSK regions, and a demodulator of each order. -/
theorem witness_PskDecisions (r : ℝ → F32) :
    (initPsk (exactConfig r) ⟨8000, 250, 1000, .qpsk⟩).par.order = .qpsk ∧
    (realPsk r).par.order = .bpsk ∧ (0 : ℝ) < 2 * Real.pi ∧ 0 ≤ Real.pi / 4 ∧
    Real.pi / 4 < 3 * Real.pi / 4 ∧ 3 * Real.pi / 4 < 5 * Real.pi / 4 ∧
    5 * Real.pi / 4 < 7 * Real.pi / 4 ∧ 7 * Real.pi / 4 < 2 * Real.pi := by
  have h := Real.pi_pos
  refine ⟨rfl, rfl, ?_, ?_, ?_, ?_, ?_, ?_⟩ <;> linarith

/-- V-BPF1. -/
theorem witness_BandpassProperties : (0 : ℝ) < 900 ∧ (900 : ℝ) < 1100 ∧ (1100 : ℝ) < 8000 / 2 := by
  norm_num

theorem witness_SampleConversionExact :
    largest.isFinite = true ∧ (⟨0x80000000⟩ : F32).isFinite = true := by
  decide

theorem witness_ZeroAfterReset :
    (let k := resetBpf.par.coef machineConfig
     k.b0.isFinite = true ∧ k.b2.isFinite = true ∧ k.a1.isFinite = true ∧
       k.a2.isFinite = true) ∧
    (∃ t, exec .bpfReset (atUnit 3) = .next t) ∧
    ∀ z ∈ [(⟨0⟩ : F32), ⟨0x80000000⟩], z.toReal = 0 ∧ z.isFinite = true := by
  refine ⟨by decide +kernel, ⟨_, rfl⟩, fun z hz => ?_⟩
  simp only [List.mem_cons, List.not_mem_nil, or_false] at hz
  rcases hz with rfl | rfl <;> refine ⟨?_, by decide⟩ <;>
    simp [F32.toReal, F32.toDyadic]

end Sys2Proof.Tests
end

/-! PROOFS. OSC, the tone oscillator (spec/40_oscillator.md): the operations of R101 to R106 as functions
of the unit where their operands are accepted, then as commands of the machine. -/

namespace Sys2Proof.Machine

/-! ### The operations of the unit, over every numerics -/

section Unit

variable {F : Type} (C : Config F) (u : Osc F)

/-- R102: the sample is that of the phase before it advances. -/
theorem oscNextSample_eq :
    oscNextSample C u =
      .ok
        ({ u with
            phase := C.num.wrap
              (C.num.add u.phase (C.num.div (C.num.mul C.num.twoPi u.freq) u.par.fs)) },
          .f32 (C.num.toF32 (C.num.mul C.oscAmp (C.num.sin u.phase)))) := rfl

/-- R104: a duration that is not positive has no samples. -/
theorem durationCount_of_le_zero {seconds : F} (fs : F)
    (h : C.num.le seconds C.num.zero = true) : durationCount C seconds fs = 0 := by
  rw [durationCount, if_pos h]

/-- R104: any other duration has the samples that fit into it. -/
theorem durationCount_of_not_le_zero {seconds : F} (fs : F)
    (h : C.num.le seconds C.num.zero = false) :
    durationCount C seconds fs = (C.num.floor (C.num.mul seconds fs)).toNat := by
  rw [durationCount, h, if_neg Bool.false_ne_true]

/-- R104: an accepted duration is a run of its number of samples. -/
theorem oscGenerateDuration_of_short {seconds : F32} (hfin : seconds.isFinite = true)
    (hlen : durationCount C (C.num.ofF32 seconds) u.par.fs < 2 ^ 32) :
    oscGenerateDuration C seconds u =
      .ok ((oscRun C (durationCount C (C.num.ofF32 seconds) u.par.fs) u).1,
        .listF32 (oscRun C (durationCount C (C.num.ofF32 seconds) u.par.fs) u).2) := by
  rw [oscGenerateDuration, requireFinite_of hfin, requireShort_of hlen]

theorem oscSetFrequency_of_finite {hz : F32} (hfin : hz.isFinite = true) :
    oscSetFrequency C hz u = .ok ({ u with freq := C.num.ofF32 hz }, .none) :=
  requireFinite_of hfin

theorem oscSetPhase_of_finite {radians : F32} (hfin : radians.isFinite = true) :
    oscSetPhase C radians u =
      .ok ({ u with phase := C.num.wrap (C.num.ofF32 radians) }, .none) :=
  requireFinite_of hfin

end Unit

/-! ### The commands: each is its unit's operation, and completes where that does -/

section Commands

variable {s : State} {u : Osc F64}

/-- An OSC command completes on an OSC instance where the unit's operation does; the frame is that of
`completesWith_onUnit`. -/
theorem completesWith_onOsc {i : Instr} {f : Osc F64 → Performed (Osc F64)} {u' : Osc F64}
    {r : Result} (hexec : exec i s = onOsc s f) (hs : s.unit? = some (.osc u))
    (hf : f u = .ok (u', r)) : CompletesWith i s (.osc u') r :=
  completesWith_onUnit hexec hs rfl hf

theorem exec_oscReset (s : State) : exec .oscReset s = onOsc s (oscReset machineConfig) := rfl

theorem exec_oscNextSample (s : State) :
    exec .oscNextSample s = onOsc s (oscNextSample machineConfig) := rfl

theorem exec_oscGenerateCount (count : U32) (s : State) :
    exec (.oscGenerateCount count) s = onOsc s (oscGenerateCount machineConfig count) := rfl

theorem exec_oscGenerateDuration (seconds : F32) (s : State) :
    exec (.oscGenerateDuration seconds) s = onOsc s (oscGenerateDuration machineConfig seconds) :=
  rfl

theorem exec_oscSetFrequency (hz : F32) (s : State) :
    exec (.oscSetFrequency hz) s = onOsc s (oscSetFrequency machineConfig hz) := rfl

theorem exec_oscSetPhase (radians : F32) (s : State) :
    exec (.oscSetPhase radians) s = onOsc s (oscSetPhase machineConfig radians) := rfl

/-- R101: the phase alone is written. -/
theorem completesWith_oscReset (hs : s.unit? = some (.osc u)) :
    CompletesWith .oscReset s (.osc { u with phase := b64.zero }) .none :=
  completesWith_onOsc (exec_oscReset s) hs rfl

/-- R102. -/
theorem completesWith_oscNextSample (hs : s.unit? = some (.osc u)) :
    CompletesWith .oscNextSample s
      (.osc
        { u with
          phase := b64.wrap (b64.add u.phase (b64.div (b64.mul b64.twoPi u.freq) u.par.fs)) })
      (.f32 (b64.toF32 (b64.mul machineConfig.oscAmp (b64.sin u.phase)))) :=
  completesWith_onOsc (exec_oscNextSample s) hs (oscNextSample_eq machineConfig u)

/-- R103. -/
theorem completesWith_oscGenerateCount (hs : s.unit? = some (.osc u)) (count : U32) :
    CompletesWith (.oscGenerateCount count) s (.osc (oscRun machineConfig count.toNat u).1)
      (.listF32 (oscRun machineConfig count.toNat u).2) :=
  completesWith_onOsc (exec_oscGenerateCount count s) hs rfl

/-- R104, under the bound of R304. -/
theorem completesWith_oscGenerateDuration (hs : s.unit? = some (.osc u)) {seconds : F32}
    (hfin : seconds.isFinite = true)
    (hlen : durationCount machineConfig (b64.ofF32 seconds) u.par.fs < 2 ^ 32) :
    CompletesWith (.oscGenerateDuration seconds) s
      (.osc (oscRun machineConfig
        (durationCount machineConfig (b64.ofF32 seconds) u.par.fs) u).1)
      (.listF32 (oscRun machineConfig
        (durationCount machineConfig (b64.ofF32 seconds) u.par.fs) u).2) :=
  completesWith_onOsc (exec_oscGenerateDuration seconds s) hs
    (oscGenerateDuration_of_short machineConfig u hfin hlen)

/-- R105: the frequency alone is written. -/
theorem completesWith_oscSetFrequency (hs : s.unit? = some (.osc u)) {hz : F32}
    (hfin : hz.isFinite = true) :
    CompletesWith (.oscSetFrequency hz) s (.osc { u with freq := b64.ofF32 hz }) .none :=
  completesWith_onOsc (exec_oscSetFrequency hz s) hs
    (oscSetFrequency_of_finite machineConfig u hfin)

/-- R106: the phase alone is written. -/
theorem completesWith_oscSetPhase (hs : s.unit? = some (.osc u)) {radians : F32}
    (hfin : radians.isFinite = true) :
    CompletesWith (.oscSetPhase radians) s
      (.osc { u with phase := b64.wrap (b64.ofF32 radians) }) .none :=
  completesWith_onOsc (exec_oscSetPhase radians s) hs
    (oscSetPhase_of_finite machineConfig u hfin)

end Commands

/-- Settles O13: each operation of OSC completes as R101 to R106 say. -/
theorem oscOperations : Obligations.OscOperations := by
  intro s u hs N
  refine ⟨rfl, completesWith_oscReset hs, ?nextSample, completesWith_oscGenerateCount hs,
    ?generateDuration, fun _ => completesWith_oscSetFrequency hs,
    fun _ => completesWith_oscSetPhase hs⟩
  case nextSample =>
    rw [← Num.twoPi]
    exact completesWith_oscNextSample hs
  case generateDuration =>
    intro seconds hfin
    exact ⟨durationCount_of_le_zero machineConfig u.par.fs,
      durationCount_of_not_le_zero machineConfig u.par.fs,
      completesWith_oscGenerateDuration hs hfin⟩

end Sys2Proof.Machine

/-! PROOFS. GOERTZEL and FSKDET, the correlator and the detector made of two of them
(spec/41_goertzel.md): one sample of a correlator, the operations of R122 to R124 and R131 to R133 as
functions of the unit where their operands are accepted, then as commands of the machine. -/

namespace Sys2Proof.Machine

/-! ### One sample of a correlator, over every numerics -/

section Feed

variable {F : Type} (C : Config F) {n : Nat} (c : F) {g : GoertzelAcc F} (x : F)

/-- R124: before the last sample of a block the recursion advances and there is no power. -/
theorem goertzelFeed_of_incomplete (hn : g.n + 1 ≠ n) :
    goertzelFeed C n c g x = (gstep C c g x, none) := if_neg hn

/-- R124: the last sample of a block answers its power and empties the accumulator. -/
theorem goertzelFeed_of_complete (hn : g.n + 1 = n) :
    goertzelFeed C n c g x = (emptyAcc C, some (gpower C n c (gstep C c g x))) := if_pos hn

end Feed

/-! ### The operations of the units, over every numerics -/

section Correlators

variable {F : Type} (C : Config F) {sample : F32} {samples : List F32}

theorem goertzelProcess_of_incomplete {u : Goertzel F} (hfin : sample.isFinite = true)
    (hn : u.acc.n + 1 ≠ u.par.n) :
    goertzelProcess C sample u =
      .ok ({ u with acc := gstep C (u.par.coef C) u.acc (C.num.ofF32 sample) }, .optF32 none) := by
  simp only [goertzelProcess, requireFinite_of hfin, goertzelFeed_of_incomplete C _ _ hn,
    Option.map_none]

theorem goertzelProcess_of_complete {u : Goertzel F} (hfin : sample.isFinite = true)
    (hn : u.acc.n + 1 = u.par.n) :
    goertzelProcess C sample u =
      .ok ({ u with acc := emptyAcc C },
        .optF32 (some (C.num.toF32 (gpower C u.par.n (u.par.coef C)
          (gstep C (u.par.coef C) u.acc (C.num.ofF32 sample)))))) := by
  simp only [goertzelProcess, requireFinite_of hfin, goertzelFeed_of_complete C _ _ hn,
    Option.map_some]

/-- R123: what a previous PROCESS left in the accumulator has no part in the answer. -/
theorem goertzelProcessBlock_of_accepted {u : Goertzel F} (hlen : samples.length = u.par.n)
    (hfin : ∀ x ∈ samples, x.isFinite = true) :
    goertzelProcessBlock C samples u =
      .ok ({ u with acc := emptyAcc C },
        .f32 (C.num.toF32
          (goertzelBlock C u.par.n (u.par.coef C) (samples.map C.num.ofF32)))) := by
  rw [goertzelProcessBlock, requireLength_of hlen, requireAllFinite_of hfin]

theorem fskdetProcess_of_incomplete {u : Fskdet F} (hfin : sample.isFinite = true)
    (hsync : u.m.n = u.s.n) (hn : u.m.n + 1 ≠ u.par.n) :
    fskdetProcess C sample u =
      .ok
        ({ u with
            m := gstep C (u.par.coefM C) u.m (C.num.ofF32 sample)
            s := gstep C (u.par.coefS C) u.s (C.num.ofF32 sample) }, .optF32 none) := by
  have hm := goertzelFeed_of_incomplete C (u.par.coefM C) (C.num.ofF32 sample) hn
  have hs := goertzelFeed_of_incomplete C (u.par.coefS C) (C.num.ofF32 sample) (hsync ▸ hn)
  simp only [fskdetProcess, requireFinite_of hfin, hm, hs, Option.map_none]

/-- R133: two correlators at the same count complete their blocks on the same sample. -/
theorem fskdetProcess_of_complete {u : Fskdet F} (hfin : sample.isFinite = true)
    (hsync : u.m.n = u.s.n) (hn : u.m.n + 1 = u.par.n) :
    fskdetProcess C sample u =
      .ok ({ u with m := emptyAcc C, s := emptyAcc C },
        .optF32 (some (C.num.toF32 (correlation C
          (gpower C u.par.n (u.par.coefM C)
            (gstep C (u.par.coefM C) u.m (C.num.ofF32 sample)))
          (gpower C u.par.n (u.par.coefS C)
            (gstep C (u.par.coefS C) u.s (C.num.ofF32 sample))))))) := by
  have hm := goertzelFeed_of_complete C (u.par.coefM C) (C.num.ofF32 sample) hn
  have hs := goertzelFeed_of_complete C (u.par.coefS C) (C.num.ofF32 sample) (hsync ▸ hn)
  simp only [fskdetProcess, requireFinite_of hfin, hm, hs, Option.map_some]

theorem fskdetProcessBlock_of_accepted {u : Fskdet F} (hlen : samples.length = u.par.n)
    (hfin : ∀ x ∈ samples, x.isFinite = true) :
    fskdetProcessBlock C samples u =
      .ok ({ u with m := emptyAcc C, s := emptyAcc C },
        .f32 (C.num.toF32 (correlation C
          (goertzelBlock C u.par.n (u.par.coefM C) (samples.map C.num.ofF32))
          (goertzelBlock C u.par.n (u.par.coefS C) (samples.map C.num.ofF32))))) := by
  rw [fskdetProcessBlock, requireLength_of hlen, requireAllFinite_of hfin]

end Correlators

/-! ### The commands: each is its unit's operation, and completes where that does -/

section GoertzelCommands

variable {s : State} {u : Goertzel F64} {sample : F32} {samples : List F32}

/-- A GOERTZEL command completes on a GOERTZEL instance where the unit's operation does. -/
theorem completesWith_onGoertzel {i : Instr} {f : Goertzel F64 → Performed (Goertzel F64)}
    {u' : Goertzel F64} {r : Result} (hexec : exec i s = onGoertzel s f)
    (hs : s.unit? = some (.goertzel u)) (hf : f u = .ok (u', r)) :
    CompletesWith i s (.goertzel u') r :=
  completesWith_onUnit hexec hs rfl hf

theorem exec_goertzelReset (s : State) :
    exec .goertzelReset s = onGoertzel s (goertzelReset machineConfig) := rfl

theorem exec_goertzelProcess (sample : F32) (s : State) :
    exec (.goertzelProcess sample) s = onGoertzel s (goertzelProcess machineConfig sample) := rfl

theorem exec_goertzelProcessBlock (samples : List F32) (s : State) :
    exec (.goertzelProcessBlock samples) s =
      onGoertzel s (goertzelProcessBlock machineConfig samples) := rfl

/-- R122: the accumulator alone is written, wherever in its block it stands. -/
theorem completesWith_goertzelReset (hs : s.unit? = some (.goertzel u)) :
    CompletesWith .goertzelReset s (.goertzel { u with acc := emptyAcc machineConfig }) .none :=
  completesWith_onGoertzel (exec_goertzelReset s) hs rfl

/-- R124, before the last sample of the block. -/
theorem completesWith_goertzelProcess_of_incomplete (hs : s.unit? = some (.goertzel u))
    (hfin : sample.isFinite = true) (hn : u.acc.n + 1 ≠ u.par.n) :
    CompletesWith (.goertzelProcess sample) s
      (.goertzel
        { u with acc := gstep machineConfig (u.par.coef machineConfig) u.acc (b64.ofF32 sample) })
      (.optF32 none) :=
  completesWith_onGoertzel (exec_goertzelProcess sample s) hs
    (goertzelProcess_of_incomplete machineConfig hfin hn)

/-- R124, at the last sample of the block. -/
theorem completesWith_goertzelProcess_of_complete (hs : s.unit? = some (.goertzel u))
    (hfin : sample.isFinite = true) (hn : u.acc.n + 1 = u.par.n) :
    CompletesWith (.goertzelProcess sample) s
      (.goertzel { u with acc := emptyAcc machineConfig })
      (.optF32 (some (b64.toF32 (gpower machineConfig u.par.n (u.par.coef machineConfig)
        (gstep machineConfig (u.par.coef machineConfig) u.acc (b64.ofF32 sample)))))) :=
  completesWith_onGoertzel (exec_goertzelProcess sample s) hs
    (goertzelProcess_of_complete machineConfig hfin hn)

/-- R123. -/
theorem completesWith_goertzelProcessBlock (hs : s.unit? = some (.goertzel u))
    (hlen : samples.length = u.par.n) (hfin : ∀ x ∈ samples, x.isFinite = true) :
    CompletesWith (.goertzelProcessBlock samples) s
      (.goertzel { u with acc := emptyAcc machineConfig })
      (.f32 (b64.toF32 (goertzelBlock machineConfig u.par.n (u.par.coef machineConfig)
        (samples.map b64.ofF32)))) :=
  completesWith_onGoertzel (exec_goertzelProcessBlock samples s) hs
    (goertzelProcessBlock_of_accepted machineConfig hlen hfin)

end GoertzelCommands

section FskdetCommands

variable {s : State} {u : Fskdet F64} {sample : F32} {samples : List F32}

/-- An FSKDET command completes on an FSKDET instance where the unit's operation does. -/
theorem completesWith_onFskdet {i : Instr} {f : Fskdet F64 → Performed (Fskdet F64)}
    {u' : Fskdet F64} {r : Result} (hexec : exec i s = onFskdet s f)
    (hs : s.unit? = some (.fskdet u)) (hf : f u = .ok (u', r)) :
    CompletesWith i s (.fskdet u') r :=
  completesWith_onUnit hexec hs rfl hf

theorem exec_fskdetReset (s : State) :
    exec .fskdetReset s = onFskdet s (fskdetReset machineConfig) := rfl

theorem exec_fskdetProcess (sample : F32) (s : State) :
    exec (.fskdetProcess sample) s = onFskdet s (fskdetProcess machineConfig sample) := rfl

theorem exec_fskdetProcessBlock (samples : List F32) (s : State) :
    exec (.fskdetProcessBlock samples) s =
      onFskdet s (fskdetProcessBlock machineConfig samples) := rfl

/-- R131: RESET of both correlators. -/
theorem completesWith_fskdetReset (hs : s.unit? = some (.fskdet u)) :
    CompletesWith .fskdetReset s
      (.fskdet { u with m := emptyAcc machineConfig, s := emptyAcc machineConfig }) .none :=
  completesWith_onFskdet (exec_fskdetReset s) hs rfl

/-- R133, before the last sample of the block. -/
theorem completesWith_fskdetProcess_of_incomplete (hs : s.unit? = some (.fskdet u))
    (hfin : sample.isFinite = true) (hsync : u.m.n = u.s.n) (hn : u.m.n + 1 ≠ u.par.n) :
    CompletesWith (.fskdetProcess sample) s
      (.fskdet
        { u with
          m := gstep machineConfig (u.par.coefM machineConfig) u.m (b64.ofF32 sample)
          s := gstep machineConfig (u.par.coefS machineConfig) u.s (b64.ofF32 sample) })
      (.optF32 none) :=
  completesWith_onFskdet (exec_fskdetProcess sample s) hs
    (fskdetProcess_of_incomplete machineConfig hfin hsync hn)

/-- R133, at the last sample of the block. -/
theorem completesWith_fskdetProcess_of_complete (hs : s.unit? = some (.fskdet u))
    (hfin : sample.isFinite = true) (hsync : u.m.n = u.s.n) (hn : u.m.n + 1 = u.par.n) :
    CompletesWith (.fskdetProcess sample) s
      (.fskdet { u with m := emptyAcc machineConfig, s := emptyAcc machineConfig })
      (.optF32 (some (b64.toF32 (correlation machineConfig
        (gpower machineConfig u.par.n (u.par.coefM machineConfig)
          (gstep machineConfig (u.par.coefM machineConfig) u.m (b64.ofF32 sample)))
        (gpower machineConfig u.par.n (u.par.coefS machineConfig)
          (gstep machineConfig (u.par.coefS machineConfig) u.s (b64.ofF32 sample))))))) :=
  completesWith_onFskdet (exec_fskdetProcess sample s) hs
    (fskdetProcess_of_complete machineConfig hfin hsync hn)

/-- R132. -/
theorem completesWith_fskdetProcessBlock (hs : s.unit? = some (.fskdet u))
    (hlen : samples.length = u.par.n) (hfin : ∀ x ∈ samples, x.isFinite = true) :
    CompletesWith (.fskdetProcessBlock samples) s
      (.fskdet { u with m := emptyAcc machineConfig, s := emptyAcc machineConfig })
      (.f32 (b64.toF32 (correlation machineConfig
        (goertzelBlock machineConfig u.par.n (u.par.coefM machineConfig)
          (samples.map b64.ofF32))
        (goertzelBlock machineConfig u.par.n (u.par.coefS machineConfig)
          (samples.map b64.ofF32))))) :=
  completesWith_onFskdet (exec_fskdetProcessBlock samples s) hs
    (fskdetProcessBlock_of_accepted machineConfig hlen hfin)

end FskdetCommands

/-! ### The arithmetic of the machine's correlators, written out -/

/-- R120: the coefficient of a tone. -/
theorem goertzelCoef_machineConfig (fs f : F64) :
    goertzelCoef machineConfig fs f =
      b64.mul (b64.int 2) (b64.cos (b64.div (b64.mul (b64.mul (b64.int 2) b64.pi) f) fs)) := rfl

/-- R120: one sample of the recursion. -/
theorem gstep_machineConfig (c : F64) (g : GoertzelAcc F64) (x : F64) :
    gstep machineConfig c g x =
      ⟨b64.sub (b64.add x (b64.mul c g.s1)) g.s2, g.s1, g.n + 1⟩ := rfl

theorem emptyAcc_machineConfig : emptyAcc machineConfig = ⟨b64.zero, b64.zero, 0⟩ := rfl

/-- R121: the scaled power, and 0 in place of a negative one. -/
theorem gpower_machineConfig (n : Nat) (c : F64) (g : GoertzelAcc F64) :
    gpower machineConfig n c g =
      let p := b64.mul
        (b64.sub (b64.add (b64.mul g.s1 g.s1) (b64.mul g.s2 g.s2)) (b64.mul (b64.mul c g.s1) g.s2))
        (b64.div (b64.int 4) (b64.nat (n * n)))
      if b64.lt p b64.zero then b64.zero else p := rfl

/-- R130: 0 below the floor of the total power, else the normalised difference. -/
theorem correlation_machineConfig (pm ps : F64) :
    correlation machineConfig pm ps =
      if b64.lt (b64.add pm ps) (b64.ratio 1 10000000000) then b64.zero
      else b64.div (b64.sub pm ps) (b64.add pm ps) := rfl

/-- Settles O14: each operation of GOERTZEL completes as R122 to R124 say. -/
theorem goertzelOperations : Obligations.GoertzelOperations := by
  intro s u hs N c power advance
  have hcoef : u.par.coef machineConfig = c := goertzelCoef_machineConfig _ _
  have hpower (g : GoertzelAcc F64) : gpower machineConfig u.par.n c g = power g.s1 g.s2 :=
    gpower_machineConfig _ c g
  have hstep : gstep machineConfig c = advance := funext₂ (gstep_machineConfig c)
  refine ⟨rfl, completesWith_goertzelReset hs, ?process, ?processBlock⟩
  case process =>
    intro sample hfin s0
    have hadvance : gstep machineConfig c u.acc (N.ofF32 sample) = ⟨s0, u.acc.s1, u.acc.n + 1⟩ :=
      gstep_machineConfig c u.acc _
    constructor
    · intro hn
      rw [← hadvance, ← hcoef]
      exact completesWith_goertzelProcess_of_incomplete hs hfin hn
    · intro hn
      have h := completesWith_goertzelProcess_of_complete hs hfin hn
      rwa [hcoef, hadvance, hpower] at h
  case processBlock =>
    intro samples hlen hfin g
    have h := completesWith_goertzelProcessBlock hs hlen hfin
    rwa [hcoef, goertzelBlock, hstep, hpower] at h

/-- Settles O15: each operation of FSKDET completes as R131 to R133 say. -/
theorem fskdetOperations : Obligations.FskdetOperations := by
  intro s u hs N advance power corr cM cS empty
  have hcM : u.par.coefM machineConfig = cM := goertzelCoef_machineConfig _ _
  have hcS : u.par.coefS machineConfig = cS := goertzelCoef_machineConfig _ _
  have hempty : emptyAcc machineConfig = empty := emptyAcc_machineConfig
  have hstep : gstep machineConfig = advance :=
    funext fun c => funext₂ (gstep_machineConfig c)
  have hpower : gpower machineConfig u.par.n = power := funext₂ (gpower_machineConfig _)
  have hcorr : correlation machineConfig = corr := funext₂ correlation_machineConfig
  refine ⟨rfl, completesWith_fskdetReset hs, ?process, ?processBlock⟩
  case process =>
    intro sample hfin hsync m' s'
    constructor
    · intro hn
      have h := completesWith_fskdetProcess_of_incomplete hs hfin hsync hn
      rwa [hcM, hcS, hstep] at h
    · intro hn
      have h := completesWith_fskdetProcess_of_complete hs hfin hsync hn
      rwa [hcM, hcS, hstep, hpower, hcorr, hempty] at h
  case processBlock =>
    intro samples hlen hfin xs
    have h := completesWith_fskdetProcessBlock hs hlen hfin
    rwa [hcM, hcS, goertzelBlock, goertzelBlock, hstep, hpower, hcorr, hempty] at h

end Sys2Proof.Machine

/-! PROOFS. BAUDOT, the two-shift codec (spec/43_baudot.md): what one code and one character do to
the shift flag, the operations of R161 to R166 as commands of the machine, and the round trip of
R167. -/

namespace Sys2Proof.Machine

/-! ### Decoding, over every configuration -/

section Decoding

variable {F : Type} (C : Config F) (u : Baudot)

/-- R161: "masked to 5 bits before lookup". -/
theorem baudotCodeOf_eq_mod (code : Byte) : baudotCodeOf code = code.toNat % 32 := by
  rw [baudotCodeOf, BitVec.toNat_setWidth]

/-- A 5-bit code is its own code operand. -/
theorem baudotCodeOf_codeByte {k : Nat} (hk : k < 32) : baudotCodeOf (codeByte k) = k := by
  rw [baudotCodeOf_eq_mod, codeByte, BitVec.toNat_ofNat]
  omega

theorem baudotDecodeCode_ltrsCode : baudotDecodeCode C u ltrsCode = (⟨false⟩, none) := rfl

theorem baudotDecodeCode_figsCode : baudotDecodeCode C u figsCode = (⟨true⟩, none) := rfl

/-- R161: a code that selects no shift is looked up in the present shift, and leaves it. -/
theorem baudotDecodeCode_of_ne {k : Nat} (hl : k ≠ ltrsCode) (hf : k ≠ figsCode) :
    baudotDecodeCode C u k = (u, (baudotTable C u.figs).getD k none) := by
  rw [baudotDecodeCode, figsAfterCode, if_neg hl, if_neg hf, if_neg hl, if_neg hf]

/-- R161, every code at once. -/
theorem baudotDecodeCode_eq (k : Nat) :
    baudotDecodeCode C u k =
      (if k = 31 then ⟨false⟩ else if k = 27 then ⟨true⟩ else u,
        if k = 31 ∨ k = 27 then none else (baudotTable C u.figs).getD k none) := by
  by_cases hl : k = ltrsCode
  · subst hl
    exact baudotDecodeCode_ltrsCode C u
  by_cases hf : k = figsCode
  · subst hf
    exact baudotDecodeCode_figsCode C u
  rw [baudotDecodeCode_of_ne C u hl hf]
  rw [ltrsCode] at hl
  rw [figsCode] at hf
  simp only [hl, hf, or_self, if_false]

/-- R162: one code, then the rest from the shift it leaves. -/
theorem baudotDecodeRun_cons (code : Byte) (codes : List Byte) :
    baudotDecodeRun C (code :: codes) u =
      ((baudotDecodeRun C codes (baudotDecodeCode C u (baudotCodeOf code)).1).1,
        (baudotDecodeCode C u (baudotCodeOf code)).2.toList ++
          (baudotDecodeRun C codes (baudotDecodeCode C u (baudotCodeOf code)).1).2) := rfl

/-- R162: "The shift state carries from code to code and from call to call." -/
theorem baudotDecodeRun_append (codes more : List Byte) :
    baudotDecodeRun C (codes ++ more) u =
      ((baudotDecodeRun C more (baudotDecodeRun C codes u).1).1,
        (baudotDecodeRun C codes u).2 ++
          (baudotDecodeRun C more (baudotDecodeRun C codes u).1).2) := by
  induction codes generalizing u with
  | nil => rfl
  | cons code codes ih =>
    simp only [List.cons_append, baudotDecodeRun_cons, ih, List.append_assoc]

theorem baudotDecodeRun_ltrs_cons (codes : List Byte) :
    baudotDecodeRun C (codeByte ltrsCode :: codes) u = baudotDecodeRun C codes ⟨false⟩ := rfl

theorem baudotDecodeRun_figs_cons (codes : List Byte) :
    baudotDecodeRun C (codeByte figsCode :: codes) u = baudotDecodeRun C codes ⟨true⟩ := rfl

/-- R161: a preamble received in Letters produces nothing and stays in Letters. -/
theorem baudotDecodeRun_preamble (n : Nat) (codes : List Byte) :
    baudotDecodeRun C (List.replicate n (codeByte ltrsCode) ++ codes) ⟨false⟩ =
      baudotDecodeRun C codes ⟨false⟩ := by
  induction n with
  | zero => rfl
  | succ n ih => rw [List.replicate_succ, List.cons_append, baudotDecodeRun_ltrs_cons, ih]

end Decoding

/-! ### Encoding, over every configuration -/

section Encoding

variable {F : Type} (C : Config F) (u : Baudot)

/-- R164: one character, then the rest from the shift it leaves. -/
theorem baudotEncodeRun_cons (scalar : U32) (text : List U32) :
    baudotEncodeRun C (scalar :: text) u =
      ((baudotEncodeRun C text (baudotEncodeOne C u scalar).1).1,
        (baudotEncodeOne C u scalar).2 ++
          (baudotEncodeRun C text (baudotEncodeOne C u scalar).1).2) := rfl

/-- R164, under the bound of R304. -/
theorem baudotEncodeString_of_short {text : List U32}
    (hlen : (baudotEncodeRun C text u).2.length < 2 ^ 32) :
    baudotEncodeString C text u =
      .ok ((baudotEncodeRun C text u).1, .listU8 (baudotEncodeRun C text u).2) := by
  rw [baudotEncodeString, requireShort_of hlen]

/-- The shift in which R165 encodes the text: a preamble that is not empty has selected Letters. -/
def afterPreamble (n : U32) (u : Baudot) : Baudot := if n = 0 then u else ⟨false⟩

theorem afterPreamble_eq (n : U32) :
    afterPreamble n u = if 1 ≤ n.toNat then ⟨false⟩ else u := by
  by_cases hn : n = 0
  · subst hn
    rfl
  · have hpos : 1 ≤ n.toNat := Nat.one_le_iff_ne_zero.mpr fun h => hn (BitVec.eq_of_toNat_eq h)
    rw [afterPreamble, if_neg hn, if_pos hpos]

/-- R165, under the bound of R304. -/
theorem baudotEncodeWithPreamble_of_short {text : List U32} {n : U32}
    (hlen : n.toNat + (baudotEncodeRun C text (afterPreamble n u)).2.length < 2 ^ 32) :
    baudotEncodeWithPreamble C text n u =
      .ok ((baudotEncodeRun C text (afterPreamble n u)).1,
        .listU8 (List.replicate n.toNat (codeByte ltrsCode) ++
          (baudotEncodeRun C text (afterPreamble n u)).2)) := by
  rw [afterPreamble_eq] at hlen ⊢
  rw [baudotEncodeWithPreamble, requireShort_of hlen]

end Encoding

/-! ### The commands: each is its unit's operation, and completes where that does -/

section BaudotCommands

variable {s : State} {u : Baudot}

/-- A BAUDOT command completes on a BAUDOT instance where the unit's operation does. -/
theorem completesWith_onBaudot {i : Instr} {f : Baudot → Performed Baudot} {u' : Baudot}
    {r : Result} (hexec : exec i s = onBaudot s f) (hs : s.unit? = some (.baudot u))
    (hf : f u = .ok (u', r)) : CompletesWith i s (.baudot u') r :=
  completesWith_onUnit hexec hs rfl hf

theorem exec_baudotReset (s : State) : exec .baudotReset s = onBaudot s baudotReset := rfl

theorem exec_baudotDecode (code : Byte) (s : State) :
    exec (.baudotDecode code) s = onBaudot s (baudotDecode machineConfig code) := rfl

theorem exec_baudotDecodeCodes (codes : List Byte) (s : State) :
    exec (.baudotDecodeCodes codes) s = onBaudot s (baudotDecodeCodes machineConfig codes) := rfl

theorem exec_baudotEncodeChar (scalar : U32) (s : State) :
    exec (.baudotEncodeChar scalar) s = onBaudot s (baudotEncodeChar machineConfig scalar) := rfl

theorem exec_baudotEncodeString (text : List U32) (s : State) :
    exec (.baudotEncodeString text) s = onBaudot s (baudotEncodeString machineConfig text) := rfl

theorem exec_baudotEncodeWithPreamble (text : List U32) (n : U32) (s : State) :
    exec (.baudotEncodeWithPreamble text n) s =
      onBaudot s (baudotEncodeWithPreamble machineConfig text n) := rfl

/-- R166. -/
theorem completesWith_baudotReset (hs : s.unit? = some (.baudot u)) :
    CompletesWith .baudotReset s (.baudot ⟨false⟩) .none :=
  completesWith_onBaudot (exec_baudotReset s) hs rfl

/-- R161: DECODE answers as its masked code does. -/
theorem completesWith_baudotDecode (hs : s.unit? = some (.baudot u)) {code : Byte} {v : Baudot}
    {ch : Option Byte} (hcode : baudotDecodeCode machineConfig u (code.toNat % 32) = (v, ch)) :
    CompletesWith (.baudotDecode code) s (.baudot v) (.optU8 ch) :=
  completesWith_onBaudot (exec_baudotDecode code s) hs
    (by rw [baudotDecode, baudotCodeOf_eq_mod, hcode])

/-- R162. -/
theorem completesWith_baudotDecodeCodes (hs : s.unit? = some (.baudot u)) (codes : List Byte) :
    CompletesWith (.baudotDecodeCodes codes) s
      (.baudot (baudotDecodeRun machineConfig codes u).1)
      (.listU8 (baudotDecodeRun machineConfig codes u).2) :=
  completesWith_onBaudot (exec_baudotDecodeCodes codes s) hs rfl

/-- R163. -/
theorem completesWith_baudotEncodeChar (hs : s.unit? = some (.baudot u)) (scalar : U32) :
    CompletesWith (.baudotEncodeChar scalar) s
      (.baudot (baudotEncodeOne machineConfig u scalar).1)
      (.supportedCodes (baudotLookup machineConfig (upper scalar)).isSome
        (baudotEncodeOne machineConfig u scalar).2) :=
  completesWith_onBaudot (exec_baudotEncodeChar scalar s) hs rfl

/-- R164, under the bound of R304. -/
theorem completesWith_baudotEncodeString (hs : s.unit? = some (.baudot u)) (text : List U32)
    (hlen : (baudotEncodeRun machineConfig text u).2.length < 2 ^ 32) :
    CompletesWith (.baudotEncodeString text) s
      (.baudot (baudotEncodeRun machineConfig text u).1)
      (.listU8 (baudotEncodeRun machineConfig text u).2) :=
  completesWith_onBaudot (exec_baudotEncodeString text s) hs
    (baudotEncodeString_of_short machineConfig u hlen)

/-- R165, under the bound of R304. -/
theorem completesWith_baudotEncodeWithPreamble (hs : s.unit? = some (.baudot u))
    (text : List U32) (n : U32)
    (hlen : n.toNat +
      (baudotEncodeRun machineConfig text (afterPreamble n u)).2.length < 2 ^ 32) :
    CompletesWith (.baudotEncodeWithPreamble text n) s
      (.baudot (baudotEncodeRun machineConfig text (afterPreamble n u)).1)
      (.listU8 (List.replicate n.toNat (codeByte ltrsCode) ++
        (baudotEncodeRun machineConfig text (afterPreamble n u)).2)) :=
  completesWith_onBaudot (exec_baudotEncodeWithPreamble text n s) hs
    (baudotEncodeWithPreamble_of_short machineConfig u hlen)

end BaudotCommands

/-- Settles O18: each operation of BAUDOT completes as R161 to R166 say. -/
theorem baudotOperations : Obligations.BaudotOperations := by
  intro s u hs C
  refine ⟨rfl, fun _ => rfl, completesWith_baudotReset hs, ?decode,
    completesWith_baudotDecodeCodes hs, rfl, ?decodeRun, completesWith_baudotEncodeChar hs, rfl,
    baudotEncodeRun_cons C u, completesWith_baudotEncodeString hs,
    completesWith_baudotEncodeWithPreamble hs⟩
  case decode =>
    intro code k
    refine ⟨fun hk => ?ltrs, fun hk => ?figs, fun hl hf => ?other⟩
    case ltrs =>
      exact completesWith_baudotDecode hs
        ((congrArg _ hk).trans (baudotDecodeCode_ltrsCode C u))
    case figs =>
      exact completesWith_baudotDecode hs
        ((congrArg _ hk).trans (baudotDecodeCode_figsCode C u))
    case other => exact completesWith_baudotDecode hs (baudotDecodeCode_of_ne C u hl hf)
  case decodeRun =>
    intro code codes
    rw [baudotDecodeRun_cons, baudotCodeOf_eq_mod, baudotDecodeCode_eq]
    rfl

/-! ### The round trip of R167

The encoder emits a character's code in a shift whose table holds the character at that code, and
the decoder, which follows the same shift codes, is then in that shift. -/

section RoundTrip

variable {F : Type}

/-- The shift in which R163 emits a code that stands where `w` says. -/
def CodeShift.shiftFrom (figs : Bool) : CodeShift → Bool
  | .letters => false
  | .figures => true
  | .both => figs

/-- The decoder reads in `table(f)` the character `ch` at code `k`, which is no shift code. -/
structure ReadsAs (C : Config F) (f : Bool) (k : Nat) (ch : Byte) : Prop where
  lt : k < 32
  ne_ltrs : k ≠ ltrsCode
  ne_figs : k ≠ figsCode
  entry : (baudotTable C f)[k]? = some (some ch)

/-- R161, R162: a character's code answers the character and leaves the shift. -/
theorem baudotDecodeRun_singleton {C : Config F} {f : Bool} {k : Nat} {ch : Byte}
    (h : ReadsAs C f k ch) : baudotDecodeRun C [codeByte k] ⟨f⟩ = (⟨f⟩, [ch]) := by
  rw [baudotDecodeRun_cons, baudotCodeOf_codeByte h.lt,
    baudotDecodeCode_of_ne C ⟨f⟩ h.ne_ltrs h.ne_figs, List.getD_eq_getElem?_getD, h.entry]
  rfl

/-- Decoding what the encoder emits for one character, from the encoder's own shift, gives that
character and the encoder's next shift. -/
theorem baudotDecodeRun_emit {C : Config F} {u : Baudot} {k : Nat} {w : CodeShift} {ch : Byte}
    (h : ReadsAs C (w.shiftFrom u.figs) k ch) :
    baudotDecodeRun C (baudotEmit u (k, w)).2 u = ((baudotEmit u (k, w)).1, [ch]) := by
  obtain ⟨f⟩ := u
  cases w with
  | both => exact baudotDecodeRun_singleton h
  | letters =>
    cases f with
    | false => exact baudotDecodeRun_singleton h
    | true => exact (baudotDecodeRun_ltrs_cons C _ _).trans (baudotDecodeRun_singleton h)
  | figures =>
    cases f with
    | false => exact (baudotDecodeRun_figs_cons C _ _).trans (baudotDecodeRun_singleton h)
    | true => exact baudotDecodeRun_singleton h

/-- A found code holds the character looked for. -/
theorem getElem?_of_findCode {table : List (Option Byte)} {u : U32} {k : Nat}
    (h : findCode table u = some k) : table[k]? = some (some (u.setWidth 8)) := by
  obtain ⟨hk, heq, -⟩ := List.findIdx?_eq_some_iff_getElem.mp h
  obtain ⟨c, hc, hcu⟩ := Option.map_eq_some_iff.mp (beq_iff_eq.mp heq)
  have hchar : u.setWidth 8 = c := by
    apply BitVec.eq_of_toNat_eq
    rw [BitVec.toNat_setWidth, ← hcu, Nat.mod_eq_of_lt c.isLt]
  rw [List.getElem?_eq_getElem hk, hc, hchar]

/-- R80: the tables hold no character at a shift code. -/
theorem baudotTable_shiftCodes (N : Num F) (f : Bool) :
    (baudotTable (defaultConfig N) f)[ltrsCode]? = some none ∧
      (baudotTable (defaultConfig N) f)[figsCode]? = some none := by
  cases f <;> exact ⟨rfl, rfl⟩

theorem baudotTable_length (N : Num F) (f : Bool) :
    (baudotTable (defaultConfig N) f).length = 32 := by cases f <;> rfl

/-- Over the tables of R80 every code with a character is a character's code. -/
theorem readsAs_of_entry {N : Num F} {f : Bool} {k : Nat} {ch : Byte}
    (h : (baudotTable (defaultConfig N) f)[k]? = some (some ch)) :
    ReadsAs (defaultConfig N) f k ch := by
  obtain ⟨hltrs, hfigs⟩ := baudotTable_shiftCodes N f
  refine ⟨?_, ?_, ?_, h⟩
  · rw [← baudotTable_length N f]
    exact (List.getElem?_eq_some_iff.mp h).1
  · rintro rfl
    simp [hltrs] at h
  · rintro rfl
    simp [hfigs] at h

/-- R81: a character that stands in both tables of R80 stands there at one code. -/
theorem sharedCharacter_code : ∀ j k : Fin 32,
    baudotLetters[j]?.join = baudotFigures[k]?.join →
      baudotLetters[j]?.join ≠ none → j = k := by
  decide +kernel

/-- R81: a character found in both tables of R80 is found at one code. -/
theorem findCode_both {u : U32} {j k : Nat} (hj : findCode baudotLetters u = some j)
    (hk : findCode baudotFigures u = some k) : j = k := by
  have hl := getElem?_of_findCode hj
  have hf := getElem?_of_findCode hk
  have hjlt : j < 32 := (List.getElem?_eq_some_iff.mp hl).1
  have hklt : k < 32 := (List.getElem?_eq_some_iff.mp hf).1
  have hsame := sharedCharacter_code ⟨j, hjlt⟩ ⟨k, hklt⟩
  simp only [Fin.getElem?_fin, hl, hf] at hsame
  simpa using hsame

/-- R81: the table of the shift in which a code is emitted holds the character at that code. -/
theorem readsAs_of_baudotLookup {N : Num F} {u : U32} {k : Nat} {w : CodeShift}
    (h : baudotLookup (defaultConfig N) u = some (k, w)) (figs : Bool) :
    ReadsAs (defaultConfig N) (w.shiftFrom figs) k (u.setWidth 8) := by
  apply readsAs_of_entry
  rw [baudotLookup] at h
  split at h
  case h_1 j i hj hi =>
    obtain ⟨rfl, rfl⟩ := Prod.mk.inj (Option.some.inj h)
    cases figs with
    | false => exact getElem?_of_findCode hj
    | true => exact findCode_both hj hi ▸ getElem?_of_findCode hi
  case h_2 j hj hi =>
    obtain ⟨rfl, rfl⟩ := Prod.mk.inj (Option.some.inj h)
    exact getElem?_of_findCode hj
  case h_3 i hj hi =>
    obtain ⟨rfl, rfl⟩ := Prod.mk.inj (Option.some.inj h)
    exact getElem?_of_findCode hi
  case h_4 => cases h

/-- R80: the space stands at its code in both tables. -/
theorem readsAs_space (N : Num F) (f : Bool) : ReadsAs (defaultConfig N) f spaceCode 0x20 :=
  readsAs_of_entry (by cases f <;> rfl)

/-- What R167 has come back for a character: itself in upper case where it is supported, else SP. -/
def echoed (C : Config F) (c : U32) : Byte :=
  if (baudotLookup C (upper c)).isSome then (upper c).setWidth 8 else 0x20

/-- R167 for one character, from any shift. -/
theorem baudotDecodeRun_encodeOne (N : Num F) (u : Baudot) (c : U32) :
    baudotDecodeRun (defaultConfig N) (baudotEncodeOne (defaultConfig N) u c).2 u =
      ((baudotEncodeOne (defaultConfig N) u c).1, [echoed (defaultConfig N) c]) := by
  rw [baudotEncodeOne, echoed]
  cases hfound : baudotLookup (defaultConfig N) (upper c) with
  | none => exact baudotDecodeRun_emit (w := .both) (readsAs_space N u.figs)
  | some found => exact baudotDecodeRun_emit (readsAs_of_baudotLookup hfound u.figs)

/-- R167 for a text, from any shift that encoder and decoder share. -/
theorem baudotDecodeRun_encodeRun (N : Num F) (text : List U32) (u : Baudot) :
    baudotDecodeRun (defaultConfig N) (baudotEncodeRun (defaultConfig N) text u).2 u =
      ((baudotEncodeRun (defaultConfig N) text u).1, text.map (echoed (defaultConfig N))) := by
  induction text generalizing u with
  | nil => rfl
  | cons c text ih =>
    rw [baudotEncodeRun_cons, baudotDecodeRun_append, baudotDecodeRun_encodeOne, ih]
    rfl

end RoundTrip

/-- Settles O42, by induction on the text from any shared shift; the preamble keeps the decoder in
Letters. -/
theorem baudotRoundTrip : Obligations.BaudotRoundTrip := by
  intro F N text n C e
  rw [baudotDecodeRun_preamble]
  exact baudotDecodeRun_encodeRun N text ⟨false⟩

end Sys2Proof.Machine

/-! PROOFS. VARICODE (spec/44_varicode.md): the operations of R181 to R187 as commands of the machine,
and the round trip of R188. -/

namespace Sys2Proof.Machine

/-! ### The operations of the unit, over every numerics -/

section VaricodeUnit

variable {F : Type} (C : Config F) (u : Varicode)

theorem varicodeDecodeRun_nil : varicodeDecodeRun C [] u = (u, []) := rfl

/-- R184: a list of bits is its first bit and then the rest. -/
theorem varicodeDecodeRun_cons (bit : Byte) (bits : List Byte) :
    varicodeDecodeRun C (bit :: bits) u =
      ((varicodeDecodeRun C bits (varicodeFeed C u (lowBit bit)).1).1,
        (varicodeFeed C u (lowBit bit)).2.toList ++
          (varicodeDecodeRun C bits (varicodeFeed C u (lowBit bit)).1).2) := rfl

/-- R184: the decoder takes one list after another. -/
theorem varicodeDecodeRun_append (bits more : List Byte) :
    varicodeDecodeRun C (bits ++ more) u =
      ((varicodeDecodeRun C more (varicodeDecodeRun C bits u).1).1,
        (varicodeDecodeRun C bits u).2 ++
          (varicodeDecodeRun C more (varicodeDecodeRun C bits u).1).2) := by
  induction bits generalizing u with
  | nil => rfl
  | cons bit bits ih =>
    rw [List.cons_append, varicodeDecodeRun_cons, ih, varicodeDecodeRun_cons, List.append_assoc]

/-- R183: a 0 bit leaves the empty decoder as it is. -/
theorem varicodeFeed_idle : varicodeFeed C ⟨0, false⟩ false = (⟨0, false⟩, none) :=
  if_pos ⟨rfl, rfl, rfl⟩

/-- R185, R188: idle bits before a list of bits change nothing. -/
theorem varicodeDecodeRun_idle (n : Nat) (bits : List Byte) :
    varicodeDecodeRun C (List.replicate n (bitByte false) ++ bits) ⟨0, false⟩ =
      varicodeDecodeRun C bits ⟨0, false⟩ := by
  induction n with
  | zero => rfl
  | succ n ih =>
    rw [List.replicate_succ, List.cons_append, varicodeDecodeRun_cons, lowBit_bitByte,
      varicodeFeed_idle, ih]
    rfl

/-- R181: a cell is the code and the gap of two 0 bits. -/
theorem varicodeCell_eq (scalar : U32) :
    varicodeCell C scalar = (varicodeOf C scalar).map bitByte ++ [bitByte false, bitByte false] :=
  List.map_append

theorem varicodeCell_length (scalar : U32) :
    (varicodeCell C scalar).length = (varicodeOf C scalar).length + 2 := by
  simp [varicodeCell_eq]

theorem varicodeEncodeRun_nil : varicodeEncodeRun C [] = [] := rfl

/-- R182: a text is its first character's cell, nothing where it has no code, and then the rest. -/
theorem varicodeEncodeRun_cons (scalar : U32) (text : List U32) :
    varicodeEncodeRun C (scalar :: text) =
      (if 127 < scalar.toNat then [] else varicodeCell C scalar) ++ varicodeEncodeRun C text := by
  rw [varicodeEncodeRun, List.flatMap_cons, varicodeEncodeOne,
    apply_ite (fun o : Option (List Byte) => o.getD [])]
  rfl

/-- R186: the encoded length is the sum of the bit lengths. -/
theorem varicodeEncodeRun_length (text : List U32) :
    (varicodeEncodeRun C text).length = (text.map (varicodeLength C)).sum := by
  induction text with
  | nil => rfl
  | cons scalar text ih =>
    rw [varicodeEncodeRun_cons, List.length_append, ih, List.map_cons, List.sum_cons,
      varicodeLength, apply_ite List.length, varicodeCell_length, List.length_nil]

theorem varicodeEncodeString_of_short {text : List U32}
    (hlen : (varicodeEncodeRun C text).length < 2 ^ 32) :
    varicodeEncodeString C text u = .ok (u, .listU8 (varicodeEncodeRun C text)) := by
  rw [varicodeEncodeString, requireShort_of hlen]

theorem varicodeEncodeWithPreamble_of_short {text : List U32} {n : U32}
    (hlen : n.toNat + (varicodeEncodeRun C text).length < 2 ^ 32) :
    varicodeEncodeWithPreamble C text n u =
      .ok (u, .listU8 (List.replicate n.toNat (bitByte false) ++ varicodeEncodeRun C text)) := by
  rw [varicodeEncodeWithPreamble, requireShort_of hlen]

end VaricodeUnit

/-! ### The commands: each is its unit's operation, and completes where that does -/

section VaricodeCommands

variable {s : State} {u : Varicode}

/-- A VARICODE command completes on a VARICODE instance where the unit's operation does. -/
theorem completesWith_onVaricode {i : Instr} {f : Varicode → Performed Varicode} {u' : Varicode}
    {r : Result} (hexec : exec i s = onVaricode s f) (hs : s.unit? = some (.varicode u))
    (hf : f u = .ok (u', r)) : CompletesWith i s (.varicode u') r :=
  completesWith_onUnit hexec hs rfl hf

theorem exec_varicodeReset (s : State) : exec .varicodeReset s = onVaricode s varicodeReset := rfl

theorem exec_varicodeDecodeBit (bit : Byte) (s : State) :
    exec (.varicodeDecodeBit bit) s = onVaricode s (varicodeDecodeBit machineConfig bit) := rfl

theorem exec_varicodeDecodeBits (bits : List Byte) (s : State) :
    exec (.varicodeDecodeBits bits) s = onVaricode s (varicodeDecodeBits machineConfig bits) := rfl

theorem exec_varicodeEncodeChar (scalar : U32) (s : State) :
    exec (.varicodeEncodeChar scalar) s = onVaricode s (varicodeEncodeChar machineConfig scalar) :=
  rfl

theorem exec_varicodeEncodeString (text : List U32) (s : State) :
    exec (.varicodeEncodeString text) s =
      onVaricode s (varicodeEncodeString machineConfig text) := rfl

theorem exec_varicodeEncodeWithPreamble (text : List U32) (n : U32) (s : State) :
    exec (.varicodeEncodeWithPreamble text n) s =
      onVaricode s (varicodeEncodeWithPreamble machineConfig text n) := rfl

theorem exec_varicodeBitLength (scalar : U32) (s : State) :
    exec (.varicodeBitLength scalar) s = onVaricode s (varicodeBitLength machineConfig scalar) :=
  rfl

/-- R187. -/
theorem completesWith_varicodeReset (hs : s.unit? = some (.varicode u)) :
    CompletesWith .varicodeReset s (.varicode ⟨0, false⟩) .none :=
  completesWith_onVaricode (exec_varicodeReset s) hs rfl

/-- R183. -/
theorem completesWith_varicodeDecodeBit (hs : s.unit? = some (.varicode u)) (bit : Byte) :
    CompletesWith (.varicodeDecodeBit bit) s
      (.varicode (varicodeFeed machineConfig u (lowBit bit)).1)
      (.optU8 (varicodeFeed machineConfig u (lowBit bit)).2) :=
  completesWith_onVaricode (exec_varicodeDecodeBit bit s) hs rfl

/-- R184. -/
theorem completesWith_varicodeDecodeBits (hs : s.unit? = some (.varicode u)) (bits : List Byte) :
    CompletesWith (.varicodeDecodeBits bits) s
      (.varicode (varicodeDecodeRun machineConfig bits u).1)
      (.listU8 (varicodeDecodeRun machineConfig bits u).2) :=
  completesWith_onVaricode (exec_varicodeDecodeBits bits s) hs rfl

/-- R181. -/
theorem completesWith_varicodeEncodeChar (hs : s.unit? = some (.varicode u)) (scalar : U32) :
    CompletesWith (.varicodeEncodeChar scalar) s (.varicode u)
      (.optListU8 (varicodeEncodeOne machineConfig scalar)) :=
  completesWith_onVaricode (exec_varicodeEncodeChar scalar s) hs rfl

/-- R182, under the bound of R304. -/
theorem completesWith_varicodeEncodeString (hs : s.unit? = some (.varicode u)) (text : List U32)
    (hlen : (varicodeEncodeRun machineConfig text).length < 2 ^ 32) :
    CompletesWith (.varicodeEncodeString text) s (.varicode u)
      (.listU8 (varicodeEncodeRun machineConfig text)) :=
  completesWith_onVaricode (exec_varicodeEncodeString text s) hs
    (varicodeEncodeString_of_short machineConfig u hlen)

/-- R185, under the bound of R304. -/
theorem completesWith_varicodeEncodeWithPreamble (hs : s.unit? = some (.varicode u))
    (text : List U32) (n : U32)
    (hlen : n.toNat + (varicodeEncodeRun machineConfig text).length < 2 ^ 32) :
    CompletesWith (.varicodeEncodeWithPreamble text n) s (.varicode u)
      (.listU8
        (List.replicate n.toNat (bitByte false) ++ varicodeEncodeRun machineConfig text)) :=
  completesWith_onVaricode (exec_varicodeEncodeWithPreamble text n s) hs
    (varicodeEncodeWithPreamble_of_short machineConfig u hlen)

/-- R186. -/
theorem completesWith_varicodeBitLength (hs : s.unit? = some (.varicode u)) (scalar : U32) :
    CompletesWith (.varicodeBitLength scalar) s (.varicode u)
      (.u32 (BitVec.ofNat 32 (varicodeLength machineConfig scalar))) :=
  completesWith_onVaricode (exec_varicodeBitLength scalar s) hs rfl

end VaricodeCommands

/-- Settles O20: each operation of VARICODE completes as R181 to R187 say. -/
theorem varicodeOperations : Obligations.VaricodeOperations := by
  intro s u hs C
  refine ⟨rfl, fun _ => rfl, completesWith_varicodeReset hs, completesWith_varicodeDecodeBit hs,
    completesWith_varicodeDecodeBits hs, varicodeDecodeRun_nil C u, varicodeDecodeRun_cons C u,
    ?encodeChar, varicodeEncodeRun_nil C, ?encodeRun, completesWith_varicodeEncodeString hs,
    completesWith_varicodeEncodeWithPreamble hs, ?bitLength⟩
  case encodeChar =>
    intro scalar
    have hcell := completesWith_varicodeEncodeChar hs scalar
    rw [varicodeEncodeOne, varicodeCell_eq] at hcell
    exact hcell
  case encodeRun =>
    intro scalar text
    rw [varicodeEncodeRun_cons, varicodeCell_eq]
    rfl
  case bitLength =>
    intro scalar
    have hlength := completesWith_varicodeBitLength hs scalar
    rw [varicodeLength, apply_ite (BitVec.ofNat 32)] at hlength
    exact hlength

/-! ### The round trip of R188

The bits of a code, fed to the empty decoder, build up the code's value: no prefix of a code ends in
two 0 bits, so none is taken for a gap. The gap after it then completes it, and the value names the
character whose code it is. -/

section VaricodeRoundTrip

variable {F : Type}

/-- What makes `v` the value of a code that a shift register of `w` bits can receive: with its gap it
fits the register, its last bit is 1, and no prefix of its digits ends in two 0 bits. -/
structure IsVaricode (w v : Nat) : Prop where
  fits : 4 * v < 2 ^ w
  odd : v % 2 = 1
  noGap : ∀ k ≤ v.log2, v / 2 ^ k % 4 ≠ 0

/-- R183: the register shifts a bit in where it has room for it. -/
theorem varicodeShift_of_fits {C : Config F} {acc : Nat} {b : Bool}
    (hfits : 2 * acc + b.toNat < 2 ^ C.vAccBits) : varicodeShift C acc b = 2 * acc + b.toNat :=
  Nat.mod_eq_of_lt hfits

/-- R183: no overflow is flagged where the register has room for a bit. -/
theorem ovfAfterShift_of_fits {C : Config F} {acc : Nat} (hfits : 2 * acc < 2 ^ C.vAccBits) :
    ovfAfterShift C false acc = false := by
  have hacc : acc < 2 ^ (C.vAccBits - 1) := by
    cases hw : C.vAccBits with
    | zero =>
      rw [hw] at hfits
      simpa using hfits
    | succ w =>
      rw [hw, Nat.pow_succ] at hfits
      rw [Nat.add_sub_cancel]
      omega
  rw [ovfAfterShift, Nat.testBit_lt_two_pow hacc, Bool.or_false]

/-- R183: a bit that completes no gap is shifted in. -/
theorem varicodeFeed_shift {C : Config F} {acc : Nat} {b : Bool}
    (hfits : 2 * acc + b.toNat < 2 ^ C.vAccBits) (hgap : (2 * acc + b.toNat) % 4 ≠ 0) :
    varicodeFeed C ⟨acc, false⟩ b = (⟨2 * acc + b.toNat, false⟩, none) := by
  have hbusy : ¬ (acc = 0 ∧ false = false ∧ b = false) := by
    rintro ⟨rfl, -, rfl⟩
    exact hgap rfl
  have hovf : ovfAfterShift C false acc = false := ovfAfterShift_of_fits (by omega)
  rw [varicodeFeed, if_neg hbusy, hovf, varicodeShift_of_fits hfits, if_neg hgap]

/-- R183: the 0 bit that completes a gap empties the decoder and answers the character. -/
theorem varicodeFeed_gap {C : Config F} {v : Nat} (hpos : v ≠ 0) (hfits : 4 * v < 2 ^ C.vAccBits) :
    varicodeFeed C ⟨2 * v, false⟩ false = (⟨0, false⟩, varicodeChar C v) := by
  have hbusy : ¬ (2 * v = 0 ∧ false = false ∧ false = false) := by omega
  have hvalue : 2 * (2 * v) + false.toNat = v * 4 := by
    rw [Bool.toNat_false]
    omega
  have hshift : varicodeShift C (2 * v) false = v * 4 :=
    (varicodeShift_of_fits (by omega)).trans hvalue
  have hovf : ovfAfterShift C false (2 * v) = false := ovfAfterShift_of_fits (by omega)
  rw [varicodeFeed, if_neg hbusy, hovf, hshift,
    if_pos (Nat.mul_mod_left v 4), Nat.mul_div_cancel v (by decide), if_neg Bool.false_ne_true]

/-- Dropping one digit fewer of a number appends that digit. -/
theorem two_mul_div_add_testBit (v n : Nat) :
    2 * (v / 2 ^ (n + 1)) + (v.testBit n).toNat = v / 2 ^ n := by
  rw [Nat.toNat_testBit, Nat.pow_succ, ← Nat.div_div_eq_div_mul]
  omega

/-- R183: from the register that holds the digits of `v` before its last `n`, these `n` digits build up
`v`, as long as none of them completes a gap. -/
theorem varicodeDecodeRun_bitsOf {C : Config F} {v : Nat} (hfits : v < 2 ^ C.vAccBits) (n : Nat)
    (hgap : ∀ k < n, v / 2 ^ k % 4 ≠ 0) :
    varicodeDecodeRun C ((bitsOf v n).map bitByte) ⟨v / 2 ^ n, false⟩ = (⟨v, false⟩, []) := by
  induction n with
  | zero => simp [bitsOf, varicodeDecodeRun_nil]
  | succ n ih =>
    have hnext := two_mul_div_add_testBit v n
    have hroom : v / 2 ^ n < 2 ^ C.vAccBits := (Nat.div_le_self v _).trans_lt hfits
    have hfeed : varicodeFeed C ⟨v / 2 ^ (n + 1), false⟩ (v.testBit n) =
        (⟨v / 2 ^ n, false⟩, none) := by
      rw [varicodeFeed_shift (hnext.symm ▸ hroom) (hnext.symm ▸ hgap n n.lt_succ_self), hnext]
    rw [bitsOf, List.map_cons, varicodeDecodeRun_cons, lowBit_bitByte, hfeed,
      ih fun k hk => hgap k (hk.trans n.lt_succ_self)]
    rfl

/-- R180, R183: a code and its gap answer the code's character and leave the decoder empty. -/
theorem varicodeDecodeRun_code {C : Config F} {v : Nat} (hv : IsVaricode C.vAccBits v) :
    varicodeDecodeRun C ((codeBits v).map bitByte ++ [bitByte false, bitByte false]) ⟨0, false⟩ =
      (⟨0, false⟩, (varicodeChar C v).toList) := by
  obtain ⟨hfits, hodd, hgap⟩ := hv
  have hdigits : varicodeDecodeRun C ((codeBits v).map bitByte) ⟨0, false⟩ = (⟨v, false⟩, []) := by
    have hrun := varicodeDecodeRun_bitsOf (C := C) (v := v) (by omega) (v.log2 + 1)
      fun k hk => hgap k (Nat.le_of_lt_succ hk)
    rwa [Nat.div_eq_of_lt Nat.lt_log2_self] at hrun
  have hfirst : varicodeFeed C ⟨v, false⟩ false = (⟨2 * v, false⟩, none) :=
    varicodeFeed_shift (by simp; omega) (by simp; omega)
  rw [varicodeDecodeRun_append, hdigits, varicodeDecodeRun_cons, lowBit_bitByte, hfirst,
    varicodeDecodeRun_cons, lowBit_bitByte, varicodeFeed_gap (by omega) hfits]
  simp [varicodeDecodeRun_nil]

/-- R180: where no two characters share a code, a code's value names its own character. -/
theorem varicodeChar_getElem {C : Config F} (hnodup : C.varicodeTable.Nodup) {k : Nat}
    (hk : k < C.varicodeTable.length) :
    varicodeChar C C.varicodeTable[k] = some (BitVec.ofNat 8 k) := by
  have hfind : C.varicodeTable.findIdx? (· == C.varicodeTable[k]) = some k := by
    refine List.findIdx?_eq_some_iff_getElem.mpr ⟨hk, beq_self_eq_true _, fun j hj heq => ?_⟩
    exact hj.ne (hnodup.getElem_inj_iff.mp (beq_iff_eq.mp heq))
  rw [varicodeChar, hfind, Option.map_some]

/-- R84: the characters of `VARICODE_TABLE` are 0 to 127. -/
theorem varicodeTable_length (N : Num F) : (defaultConfig N).varicodeTable.length = 128 := by
  change (varicodeLow ++ varicodeHigh).length = 128
  decide +kernel

/-- R84: no two characters share a code. -/
theorem varicodeTable_nodup (N : Num F) : (defaultConfig N).varicodeTable.Nodup := by
  change (varicodeLow ++ varicodeHigh).Nodup
  decide +kernel

/-- R84: every entry of `VARICODE_TABLE` is a code for the register of R6. -/
theorem isVaricode_of_mem (N : Num F) {v : Nat} (hv : v ∈ (defaultConfig N).varicodeTable) :
    IsVaricode (defaultConfig N).vAccBits v := by
  have htable : ∀ v ∈ varicodeLow ++ varicodeHigh,
      4 * v < 2 ^ 12 ∧ v % 2 = 1 ∧ ∀ k ≤ v.log2, v / 2 ^ k % 4 ≠ 0 := by decide +kernel
  obtain ⟨hfits, hodd, hgap⟩ := htable v hv
  exact ⟨hfits, hodd, hgap⟩

/-- R188 for one character of the table. -/
theorem varicodeDecodeRun_cell (N : Num F) {c : U32} (hc : c.toNat < 128) :
    varicodeDecodeRun (defaultConfig N) (varicodeCell (defaultConfig N) c) ⟨0, false⟩ =
      (⟨0, false⟩, [c.setWidth 8]) := by
  have hlt : c.toNat < (defaultConfig N).varicodeTable.length := by
    rwa [varicodeTable_length]
  rw [varicodeCell_eq, varicodeOf, List.getD_eq_getElem _ _ hlt,
    varicodeDecodeRun_code (isVaricode_of_mem N (List.getElem_mem hlt)),
    varicodeChar_getElem (varicodeTable_nodup N) hlt, BitVec.ofNat_toNat, Option.toList_some]

/-- R188 for a text: what R182 skips is absent from what comes back. -/
theorem varicodeDecodeRun_encodeRun (N : Num F) (text : List U32) :
    varicodeDecodeRun (defaultConfig N) (varicodeEncodeRun (defaultConfig N) text) ⟨0, false⟩ =
      (⟨0, false⟩, (text.filter fun c => decide (c.toNat < 128)).map fun c => c.setWidth 8) := by
  induction text with
  | nil => rfl
  | cons c text ih =>
    rw [varicodeEncodeRun_cons]
    by_cases hc : c.toNat < 128
    case pos =>
      rw [if_neg (by omega), varicodeDecodeRun_append, varicodeDecodeRun_cell N hc, ih,
        List.filter_cons_of_pos (by simpa using hc)]
      rfl
    case neg =>
      rw [if_pos (by omega), List.nil_append, ih, List.filter_cons_of_neg (by simpa using hc)]

end VaricodeRoundTrip

/-- Settles O43: the idle bits leave the decoder empty, and from there it is an induction on the
text. -/
theorem varicodeRoundTrip : Obligations.VaricodeRoundTrip := by
  intro F N text n C
  refine ⟨?_, varicodeEncodeRun_length C text⟩
  rw [varicodeDecodeRun_idle]
  exact varicodeDecodeRun_encodeRun N text

end Sys2Proof.Machine

/-! PROOFS. FSKDEMOD (spec/45_fsk_demod.md): the operations of R202 and R218 to R224 as functions of the
unit where their operands are accepted, then as commands of the machine. -/

namespace Sys2Proof.Machine

/-! ### The operations of the unit, over every numerics -/

section FskDemodUnit

variable {F : Type} (C : Config F) (u : FskDemod F)

/-- R201, R147: a mark frequency is valid where its band lies above 0 and below half the sample rate. -/
theorem validMark_iff (p : FskParams F) (f : F) :
    p.validMark C f = true ↔
      C.num.lt C.num.zero
          (C.num.sub (C.num.min f (C.num.add f p.shift)) C.bpfMarginHz) = true ∧
        C.num.lt (C.num.add (C.num.max f (C.num.add f p.shift)) C.bpfMarginHz)
          (C.num.div p.fs (C.num.int 2)) = true :=
  Bool.and_eq_true_iff

theorem fskdemodProcessSample_of_finite {sample : F32} (hfin : sample.isFinite = true) :
    fskdemodProcessSample C sample u =
      .ok ((fskSample C u (C.num.ofF32 sample)).1,
        .events (fskSample C u (C.num.ofF32 sample)).2) :=
  requireFinite_of hfin

theorem fskdemodProcessBlock_of_finite {samples : List F32}
    (hfin : ∀ x ∈ samples, x.isFinite = true) :
    fskdemodProcessBlock C samples u =
      .ok ((fskRun C (samples.map C.num.ofF32) u).1,
        .events (fskRun C (samples.map C.num.ofF32) u).2) :=
  requireAllFinite_of hfin

/-- R220: an accepted frequency is written before the registers of R219 are cleared. -/
theorem fskdemodTune_of_valid {f : F32} (hfin : f.isFinite = true)
    (hvalid : u.par.validMark C (C.num.ofF32 f) = true) :
    fskdemodTune C f u = .ok (fskCleared C { u with markTuned := C.num.ofF32 f }, .none) := by
  rw [fskdemodTune, requireFinite_of hfin, if_pos hvalid]

theorem fskdemodSetSquelch_of_finite {level : F32} (hfin : level.isFinite = true) :
    fskdemodSetSquelch C level u =
      .ok ({ u with squelchManual := C.num.ofF32 level }, .none) :=
  requireFinite_of hfin

end FskDemodUnit

/-! ### The commands: each is its unit's operation, and completes where that does -/

section FskDemodCommands

variable {s : State} {u : FskDemod F64}

/-- An FSKDEMOD command completes on an FSKDEMOD instance where the unit's operation does. -/
theorem completesWith_onFskDemod {i : Instr} {f : FskDemod F64 → Performed (FskDemod F64)}
    {u' : FskDemod F64} {r : Result} (hexec : exec i s = onFskDemod s f)
    (hs : s.unit? = some (.fskdemod u)) (hf : f u = .ok (u', r)) :
    CompletesWith i s (.fskdemod u') r :=
  completesWith_onUnit hexec hs rfl hf

theorem exec_fskdemodReset (s : State) :
    exec .fskdemodReset s = onFskDemod s (fskdemodReset machineConfig) := rfl

theorem exec_fskdemodProcessSample (sample : F32) (s : State) :
    exec (.fskdemodProcessSample sample) s =
      onFskDemod s (fskdemodProcessSample machineConfig sample) := rfl

theorem exec_fskdemodProcessBlock (samples : List F32) (s : State) :
    exec (.fskdemodProcessBlock samples) s =
      onFskDemod s (fskdemodProcessBlock machineConfig samples) := rfl

theorem exec_fskdemodTune (f : F32) (s : State) :
    exec (.fskdemodTune f) s = onFskDemod s (fskdemodTune machineConfig f) := rfl

theorem exec_fskdemodSetSquelch (level : F32) (s : State) :
    exec (.fskdemodSetSquelch level) s =
      onFskDemod s (fskdemodSetSquelch machineConfig level) := rfl

theorem exec_fskdemodSetReverse (flag : Byte) (s : State) :
    exec (.fskdemodSetReverse flag) s = onFskDemod s (fskdemodSetReverse flag) := rfl

theorem exec_fskdemodGetStrength (s : State) :
    exec .fskdemodGetStrength s = onFskDemod s (fskdemodGetStrength machineConfig) := rfl

theorem exec_fskdemodGetDetected (s : State) :
    exec .fskdemodGetDetected s = onFskDemod s fskdemodGetDetected := rfl

/-- R219. -/
theorem completesWith_fskdemodReset (hs : s.unit? = some (.fskdemod u)) :
    CompletesWith .fskdemodReset s (.fskdemod (fskCleared machineConfig u)) .none :=
  completesWith_onFskDemod (exec_fskdemodReset s) hs rfl

/-- R202. -/
theorem completesWith_fskdemodProcessSample (hs : s.unit? = some (.fskdemod u)) {sample : F32}
    (hfin : sample.isFinite = true) :
    CompletesWith (.fskdemodProcessSample sample) s
      (.fskdemod (fskSample machineConfig u (b64.ofF32 sample)).1)
      (.events (fskSample machineConfig u (b64.ofF32 sample)).2) :=
  completesWith_onFskDemod (exec_fskdemodProcessSample sample s) hs
    (fskdemodProcessSample_of_finite machineConfig u hfin)

/-- R218. -/
theorem completesWith_fskdemodProcessBlock (hs : s.unit? = some (.fskdemod u))
    {samples : List F32} (hfin : ∀ x ∈ samples, x.isFinite = true) :
    CompletesWith (.fskdemodProcessBlock samples) s
      (.fskdemod (fskRun machineConfig (samples.map b64.ofF32) u).1)
      (.events (fskRun machineConfig (samples.map b64.ofF32) u).2) :=
  completesWith_onFskDemod (exec_fskdemodProcessBlock samples s) hs
    (fskdemodProcessBlock_of_finite machineConfig u hfin)

/-- R220, where the frequency is valid. -/
theorem completesWith_fskdemodTune (hs : s.unit? = some (.fskdemod u)) {f : F32}
    (hfin : f.isFinite = true) (hvalid : u.par.validMark machineConfig (b64.ofF32 f) = true) :
    CompletesWith (.fskdemodTune f) s
      (.fskdemod (fskCleared machineConfig { u with markTuned := b64.ofF32 f })) .none :=
  completesWith_onFskDemod (exec_fskdemodTune f s) hs
    (fskdemodTune_of_valid machineConfig u hfin hvalid)

/-- R221. -/
theorem completesWith_fskdemodSetSquelch (hs : s.unit? = some (.fskdemod u)) {level : F32}
    (hfin : level.isFinite = true) :
    CompletesWith (.fskdemodSetSquelch level) s
      (.fskdemod { u with squelchManual := b64.ofF32 level }) .none :=
  completesWith_onFskDemod (exec_fskdemodSetSquelch level s) hs
    (fskdemodSetSquelch_of_finite machineConfig u hfin)

/-- R222: of the flag's byte, bit 0 counts. -/
theorem completesWith_fskdemodSetReverse (hs : s.unit? = some (.fskdemod u)) (flag : Byte) :
    CompletesWith (.fskdemodSetReverse flag) s
      (.fskdemod { u with reverse := flag.getLsbD 0 }) .none :=
  completesWith_onFskDemod (exec_fskdemodSetReverse flag s) hs rfl

/-- R223. -/
theorem completesWith_fskdemodGetStrength (hs : s.unit? = some (.fskdemod u)) :
    CompletesWith .fskdemodGetStrength s (.fskdemod u) (.f32 (b64.toF32 u.strength)) :=
  completesWith_onFskDemod (exec_fskdemodGetStrength s) hs rfl

/-- R224. -/
theorem completesWith_fskdemodGetDetected (hs : s.unit? = some (.fskdemod u)) :
    CompletesWith .fskdemodGetDetected s (.fskdemod u)
      (.u8 (if u.detected then 1 else 0)) :=
  completesWith_onFskDemod (exec_fskdemodGetDetected s) hs rfl

end FskDemodCommands

/-- Settles O22: each operation of FSKDEMOD completes as R202 and R218 to R224 say. -/
theorem fskdemodOperations : Obligations.FskdemodOperations := by
  intro s u hs N C
  refine ⟨fun _ => rfl, rfl, rfl, completesWith_fskdemodReset hs,
    fun _ => completesWith_fskdemodProcessSample hs,
    fun _ => completesWith_fskdemodProcessBlock hs, ?tune,
    fun _ => completesWith_fskdemodSetSquelch hs, completesWith_fskdemodSetReverse hs,
    completesWith_fskdemodGetStrength hs, completesWith_fskdemodGetDetected hs⟩
  case tune =>
    intro f hfin fm fsp hlow hhigh
    exact completesWith_fskdemodTune hs hfin ((validMark_iff C u.par fm).mpr ⟨hlow, hhigh⟩)

end Sys2Proof.Machine

/-! PROOFS. PSKDEMOD (spec/46_psk_demod.md): the operations of R251 and R262 to R268 as functions of the
unit where their operands are accepted, then as commands of the machine. -/

namespace Sys2Proof.Machine

/-! ### The operations of the unit, over every numerics -/

section PskDemodUnit

variable {F : Type} (C : Config F) (u : PskDemod F)

/-- R250: a centre frequency is valid strictly between 0 and half the sample rate. -/
theorem validCenter_iff (p : PskParams F) (f : F) :
    p.validCenter C f = true ↔
      C.num.lt C.num.zero f = true ∧ C.num.lt f (C.num.div p.fs (C.num.int 2)) = true :=
  Bool.and_eq_true_iff

theorem pskdemodProcessSample_of_finite {sample : F32} (hfin : sample.isFinite = true) :
    pskdemodProcessSample C sample u =
      .ok ((pskSample C u (C.num.ofF32 sample)).1,
        .events (pskSample C u (C.num.ofF32 sample)).2) :=
  requireFinite_of hfin

theorem pskdemodProcessBlock_of_finite {samples : List F32}
    (hfin : ∀ x ∈ samples, x.isFinite = true) :
    pskdemodProcessBlock C samples u =
      .ok ((pskRun C (samples.map C.num.ofF32) u).1,
        .events (pskRun C (samples.map C.num.ofF32) u).2) :=
  requireAllFinite_of hfin

/-- R264: an accepted frequency is written before the registers of R263 are cleared. -/
theorem pskdemodTune_of_valid {f : F32} (hfin : f.isFinite = true)
    (hvalid : u.par.validCenter C (C.num.ofF32 f) = true) :
    pskdemodTune C f u = .ok (pskCleared C { u with centerTuned := C.num.ofF32 f }, .none) := by
  rw [pskdemodTune, requireFinite_of hfin, if_pos hvalid]

theorem pskdemodSetSquelch_of_finite {level : F32} (hfin : level.isFinite = true) :
    pskdemodSetSquelch C level u = .ok ({ u with squelch := C.num.ofF32 level }, .none) :=
  requireFinite_of hfin

end PskDemodUnit

/-! ### The commands: each is its unit's operation, and completes where that does -/

section PskDemodCommands

variable {s : State} {u : PskDemod F64}

/-- A PSKDEMOD command completes on a PSKDEMOD instance where the unit's operation does. -/
theorem completesWith_onPskDemod {i : Instr} {f : PskDemod F64 → Performed (PskDemod F64)}
    {u' : PskDemod F64} {r : Result} (hexec : exec i s = onPskDemod s f)
    (hs : s.unit? = some (.pskdemod u)) (hf : f u = .ok (u', r)) :
    CompletesWith i s (.pskdemod u') r :=
  completesWith_onUnit hexec hs rfl hf

theorem exec_pskdemodReset (s : State) :
    exec .pskdemodReset s = onPskDemod s (pskdemodReset machineConfig) := rfl

theorem exec_pskdemodProcessSample (sample : F32) (s : State) :
    exec (.pskdemodProcessSample sample) s =
      onPskDemod s (pskdemodProcessSample machineConfig sample) := rfl

theorem exec_pskdemodProcessBlock (samples : List F32) (s : State) :
    exec (.pskdemodProcessBlock samples) s =
      onPskDemod s (pskdemodProcessBlock machineConfig samples) := rfl

theorem exec_pskdemodTune (f : F32) (s : State) :
    exec (.pskdemodTune f) s = onPskDemod s (pskdemodTune machineConfig f) := rfl

theorem exec_pskdemodSetSquelch (level : F32) (s : State) :
    exec (.pskdemodSetSquelch level) s =
      onPskDemod s (pskdemodSetSquelch machineConfig level) := rfl

theorem exec_pskdemodGetStrength (s : State) :
    exec .pskdemodGetStrength s = onPskDemod s (pskdemodGetStrength machineConfig) := rfl

theorem exec_pskdemodGetDetected (s : State) :
    exec .pskdemodGetDetected s = onPskDemod s pskdemodGetDetected := rfl

theorem exec_pskdemodGetTimingError (s : State) :
    exec .pskdemodGetTimingError s = onPskDemod s (pskdemodGetTimingError machineConfig) := rfl

/-- R263. -/
theorem completesWith_pskdemodReset (hs : s.unit? = some (.pskdemod u)) :
    CompletesWith .pskdemodReset s (.pskdemod (pskCleared machineConfig u)) .none :=
  completesWith_onPskDemod (exec_pskdemodReset s) hs rfl

/-- R251. -/
theorem completesWith_pskdemodProcessSample (hs : s.unit? = some (.pskdemod u)) {sample : F32}
    (hfin : sample.isFinite = true) :
    CompletesWith (.pskdemodProcessSample sample) s
      (.pskdemod (pskSample machineConfig u (b64.ofF32 sample)).1)
      (.events (pskSample machineConfig u (b64.ofF32 sample)).2) :=
  completesWith_onPskDemod (exec_pskdemodProcessSample sample s) hs
    (pskdemodProcessSample_of_finite machineConfig u hfin)

/-- R262. -/
theorem completesWith_pskdemodProcessBlock (hs : s.unit? = some (.pskdemod u))
    {samples : List F32} (hfin : ∀ x ∈ samples, x.isFinite = true) :
    CompletesWith (.pskdemodProcessBlock samples) s
      (.pskdemod (pskRun machineConfig (samples.map b64.ofF32) u).1)
      (.events (pskRun machineConfig (samples.map b64.ofF32) u).2) :=
  completesWith_onPskDemod (exec_pskdemodProcessBlock samples s) hs
    (pskdemodProcessBlock_of_finite machineConfig u hfin)

/-- R264, where the frequency is valid. -/
theorem completesWith_pskdemodTune (hs : s.unit? = some (.pskdemod u)) {f : F32}
    (hfin : f.isFinite = true) (hvalid : u.par.validCenter machineConfig (b64.ofF32 f) = true) :
    CompletesWith (.pskdemodTune f) s
      (.pskdemod (pskCleared machineConfig { u with centerTuned := b64.ofF32 f })) .none :=
  completesWith_onPskDemod (exec_pskdemodTune f s) hs
    (pskdemodTune_of_valid machineConfig u hfin hvalid)

/-- R265. -/
theorem completesWith_pskdemodSetSquelch (hs : s.unit? = some (.pskdemod u)) {level : F32}
    (hfin : level.isFinite = true) :
    CompletesWith (.pskdemodSetSquelch level) s
      (.pskdemod { u with squelch := b64.ofF32 level }) .none :=
  completesWith_onPskDemod (exec_pskdemodSetSquelch level s) hs
    (pskdemodSetSquelch_of_finite machineConfig u hfin)

/-- R266. -/
theorem completesWith_pskdemodGetStrength (hs : s.unit? = some (.pskdemod u)) :
    CompletesWith .pskdemodGetStrength s (.pskdemod u) (.f32 (b64.toF32 u.strength)) :=
  completesWith_onPskDemod (exec_pskdemodGetStrength s) hs rfl

/-- R267. -/
theorem completesWith_pskdemodGetDetected (hs : s.unit? = some (.pskdemod u)) :
    CompletesWith .pskdemodGetDetected s (.pskdemod u)
      (.u8 (if u.detected then 1 else 0)) :=
  completesWith_onPskDemod (exec_pskdemodGetDetected s) hs rfl

/-- R268. -/
theorem completesWith_pskdemodGetTimingError (hs : s.unit? = some (.pskdemod u)) :
    CompletesWith .pskdemodGetTimingError s (.pskdemod u) (.f32 (b64.toF32 u.timingError)) :=
  completesWith_onPskDemod (exec_pskdemodGetTimingError s) hs rfl

end PskDemodCommands

/-- Settles O24: each operation of PSKDEMOD completes as R251 and R262 to R268 say. -/
theorem pskdemodOperations : Obligations.PskdemodOperations := by
  intro s u hs N C
  refine ⟨rfl, rfl, rfl, completesWith_pskdemodReset hs,
    fun _ => completesWith_pskdemodProcessSample hs,
    fun _ => completesWith_pskdemodProcessBlock hs, ?tune,
    fun _ => completesWith_pskdemodSetSquelch hs, completesWith_pskdemodGetStrength hs,
    completesWith_pskdemodGetDetected hs, completesWith_pskdemodGetTimingError hs⟩
  case tune =>
    intro f hfin hlow hhigh
    exact completesWith_pskdemodTune hs hfin ((validCenter_iff C u.par _).mpr ⟨hlow, hhigh⟩)

end Sys2Proof.Machine

/-! PROOFS. RESET of every unit kind (spec/70_reset_and_hazards.md R331): what it leaves, set beside what
instantiation makes (R330, R332). The one difficulty is that RESET overwrites CBPF's memories and
FSKDEMOD's ring and history element by element, while instantiation makes lists of the length the
parameters give; the two agree where the lists have that length, which well-formedness has and RESET
keeps. -/

namespace Sys2Proof.Machine

/-! ### What RESET leaves, over every numerics -/

section Cleared

variable {F : Type} (C : Config F)

/-- What R331 says RESET leaves: a fresh instance of the same parameters with the old settings. -/
def Instance.cleared (v : Instance F) : Instance F := v.keepSettings (v.params.fresh C)

@[simp] theorem Instance.cleared_kind (v : Instance F) : (v.cleared C).kind = v.kind := by
  cases v <;> rfl

/-- RESET is idempotent: clearing keeps both the parameters and the settings. -/
@[simp] theorem Instance.cleared_cleared (v : Instance F) :
    (v.cleared C).cleared C = v.cleared C := by
  cases v <;> rfl

/-- The part of well-formedness RESET depends on: the lists it overwrites element by element have the
lengths of R28, R32 and R33. -/
def Instance.listsSized : Instance F → Prop
  | .cbpf u => u.sec.length = u.par.n
  | .fskdemod u => u.ring.length = u.par.window C ∧ u.hist.length = C.histLen
  | _ => True

theorem Cbpf.sec_length_of_inRange {u : Cbpf F} (h : u.inRange = true) :
    u.sec.length = u.par.n :=
  of_decide_eq_true h

theorem FskDemod.lengths_of_inRange [DecidableEq F] {u : FskDemod F} (h : u.inRange C = true) :
    u.ring.length = u.par.window C ∧ u.hist.length = C.histLen := by
  simp only [FskDemod.inRange, Bool.and_eq_true, decide_eq_true_eq] at h
  obtain ⟨⟨⟨⟨⟨⟨⟨⟨-, hring⟩, -⟩, -⟩, hhist⟩, -⟩, -⟩, -⟩, -⟩ := h
  exact ⟨hring, hhist⟩

theorem Instance.listsSized_of_wf [DecidableEq F] {v : Instance F} (h : v.wf C = true) :
    v.listsSized C := by
  obtain ⟨-, hrange⟩ := Bool.and_eq_true_iff.mp h
  cases v with
  | cbpf u => exact Cbpf.sec_length_of_inRange hrange
  | fskdemod u => exact FskDemod.lengths_of_inRange C hrange
  | _ => trivial

theorem Instance.listsSized_cleared (v : Instance F) : (v.cleared C).listsSized C := by
  cases v with
  | cbpf u => exact List.length_replicate
  | fskdemod u => exact ⟨List.length_replicate, List.length_replicate⟩
  | _ => trivial

/-- R149: the sections cleared one by one are those of a fresh cascade. -/
theorem cbpf_sec_cleared {u : Cbpf F} (h : u.sec.length = u.par.n) :
    u.sec.map (fun _ => clearMem C) = clearSections C u.par.n := by
  rw [List.map_const', h, clearSections]

/-- R219: the registers RESET writes have the values of R332, all others are parameters or settings. -/
theorem fskCleared_eq_init {u : FskDemod F} (hring : u.ring.length = u.par.window C)
    (hhist : u.hist.length = C.histLen) :
    fskCleared C u =
      { initFsk C u.par with
        markTuned := u.markTuned
        squelchManual := u.squelchManual
        reverse := u.reverse } := by
  simp only [fskCleared, fskEnterWaiting, initFsk, List.map_const', hring, hhist]

/-- R263, as `fskCleared_eq_init`. -/
theorem pskCleared_eq_init (u : PskDemod F) :
    pskCleared C u =
      { initPsk C u.par with centerTuned := u.centerTuned, squelch := u.squelch } := rfl

end Cleared

/-! ### The command -/

section ResetCommand

variable {s : State}

/-- R142. -/
theorem bpfReset_completesWith_init {u : Bpf F64} (hs : s.unit? = some (.bpf u)) :
    CompletesWith .bpfReset s (.bpf (initBpf machineConfig u.par)) .none :=
  have hexec : exec .bpfReset s = onBpf s (bpfReset machineConfig) := rfl
  completesWith_onUnit hexec hs rfl rfl

/-- R149. -/
theorem cbpfReset_completesWith_init {u : Cbpf F64} (hs : s.unit? = some (.cbpf u))
    (hsec : u.sec.length = u.par.n) :
    CompletesWith .cbpfReset s (.cbpf (initCbpf machineConfig u.par)) .none := by
  have hexec : exec .cbpfReset s = onCbpf s (cbpfReset machineConfig) := rfl
  have hreset : cbpfReset machineConfig u = .ok (initCbpf machineConfig u.par, .none) := by
    rw [cbpfReset, cbpf_sec_cleared machineConfig hsec, initCbpf]
  exact completesWith_onUnit hexec hs rfl hreset

/-- R331: RESET of each unit kind completes and leaves the cleared instance. -/
theorem completesWith_resetInstr {v : Instance F64} (hs : s.unit? = some v)
    (hsized : v.listsSized machineConfig) :
    CompletesWith v.kind.resetInstr s (v.cleared machineConfig) .none := by
  cases v with
  | osc u => exact completesWith_oscReset hs
  | goertzel u => exact completesWith_goertzelReset hs
  | fskdet u => exact completesWith_fskdetReset hs
  | bpf u => exact bpfReset_completesWith_init hs
  | cbpf u => exact cbpfReset_completesWith_init hs hsized
  | baudot u => exact completesWith_baudotReset hs
  | varicode u => exact completesWith_varicodeReset hs
  | fskdemod u =>
    obtain ⟨hring, hhist⟩ := hsized
    have hreset := completesWith_fskdemodReset hs
    rw [fskCleared_eq_init machineConfig hring hhist] at hreset
    exact hreset
  | pskdemod u =>
    have hreset := completesWith_pskdemodReset hs
    rw [pskCleared_eq_init] at hreset
    exact hreset

/-- R331: RESET of a cleared instance completes and leaves it as it is. -/
theorem completesWith_resetInstr_cleared {v : Instance F64}
    (hs : s.unit? = some (v.cleared machineConfig)) :
    CompletesWith v.kind.resetInstr s (v.cleared machineConfig) .none := by
  have hreset := completesWith_resetInstr hs (v.listsSized_cleared machineConfig)
  rwa [Instance.cleared_kind, Instance.cleared_cleared] at hreset

end ResetCommand

/-- Settles O32: RESET leaves a well-formed instance as `Instance.cleared` has it, and RESET of that
changes nothing. -/
theorem resetIsFresh : Obligations.ResetIsFresh := by
  intro s v hs hwf
  have hsized := Instance.listsSized_of_wf machineConfig hwf
  exact ⟨completesWith_resetInstr hs hsized, fun t ht => completesWith_resetInstr_cleared ht⟩

end Sys2Proof.Machine

/-! PROOFS. The serialised form of commands (R52, R70 to R76): what each operand type's reader and writer
have to do with one another, what that makes of a command, and the rows of R74 by the type of their
operands. -/

namespace Sys2Proof

/-! ### Operand types -/

section Codecs

variable {α β : Type}

/-- A serialised operand type of R71: the reader reads back what the writer writes of a value that fits,
reads nothing else, and answers nothing where the bytes end inside a value. -/
structure Codec (read : List Byte → Option (α × List Byte)) (write : α → List Byte)
    (fits : α → Bool) : Prop where
  reads : ∀ a rest, fits a = true → read (write a ++ rest) = some (a, rest)
  only : ∀ bytes a rest, read bytes = some (a, rest) → fits a = true ∧ bytes = write a ++ rest
  short : ∀ a k, fits a = true → k < (write a).length → read ((write a).take k) = none

/-- The condition of an operand type whose every value can be written. -/
def anyValue (_ : α) : Bool := true

/-- Reads no operand. -/
def readNothing (bytes : List Byte) : Option (Unit × List Byte) := some ((), bytes)

/-- Reads two operands. -/
def readPair (readA : List Byte → Option (α × List Byte)) (readB : List Byte → Option (β × List Byte))
    (bytes : List Byte) : Option ((α × β) × List Byte) :=
  (readA bytes).bind fun p => (readB p.2).map fun q => ((p.1, q.1), q.2)

theorem codec_nothing : Codec readNothing (fun _ => []) anyValue where
  reads _ _ _ := rfl
  only _ _ _ h := by cases h; exact ⟨rfl, rfl⟩
  short _ _ _ hk := absurd hk (Nat.not_lt_zero _)

theorem codec_u8 : Codec readU8 u8Bytes anyValue where
  reads a rest _ := readU8_write a rest
  only bytes a rest h := ⟨rfl, only_u8 bytes a rest h⟩
  short a k _ hk := by
    obtain rfl : k = 0 := Nat.lt_one_iff.mp hk
    rfl

/-- A word needs its four bytes. -/
theorem readU32_of_length_lt {bytes : List Byte} (h : bytes.length < 4) : readU32 bytes = none := by
  match bytes, h with
  | [], _ => rfl
  | [_], _ => rfl
  | [_, _], _ => rfl
  | [_, _, _], _ => rfl
  | _ :: _ :: _ :: _ :: _, h => simp only [List.length_cons] at h; omega

theorem codec_u32 : Codec readU32 bytesOf32 anyValue where
  reads a rest _ := readU32_write a rest
  only bytes a rest h := ⟨rfl, only_u32 bytes a rest h⟩
  short a k _ hk := by
    apply readU32_of_length_lt
    rw [bytesOf32_length] at hk
    rw [List.length_take]
    omega

theorem codec_f32 : Codec readF32 f32Bytes anyValue where
  reads a rest _ := readF32_write a rest
  only bytes a rest h := ⟨rfl, only_f32 bytes a rest h⟩
  short a k _ hk := by rw [readF32, f32Bytes, codec_u32.short a.bits k rfl hk, Option.map_none]

/-- Elements cut short: the first that is incomplete stops the reader. -/
theorem readMany_take {read : List Byte → Option (α × List Byte)} {write : α → List Byte}
    (h : Codec read write anyValue) (l : List α) {k : Nat} (hk : k < (l.flatMap write).length) :
    readMany read l.length ((l.flatMap write).take k) = none := by
  induction l generalizing k with
  | nil => exact absurd hk (Nat.not_lt_zero k)
  | cons a l ih =>
    rw [List.flatMap_cons, List.length_append] at hk
    rw [List.length_cons, readMany, List.flatMap_cons]
    by_cases hlt : k < (write a).length
    case pos =>
      rw [List.take_append_of_le_length hlt.le, h.short a k rfl hlt]
    case neg =>
      have hrest : k - (write a).length < (l.flatMap write).length := by omega
      rw [List.take_append, List.take_of_length_le (Nat.not_lt.mp hlt), h.reads a _ rfl]
      simp only [ih hrest]

theorem codec_list {read : List Byte → Option (α × List Byte)} {write : α → List Byte}
    (h : Codec read write anyValue) : Codec (readList read) (listBytes write) listFits where
  reads l rest hl := readList_write (fun a rest => h.reads a rest rfl) hl rest
  only bytes l rest hr := only_list (fun bytes a rest ha => (h.only bytes a rest ha).2) hr
  short l k hl hk := by
    have hlen : l.length < 2 ^ 32 := of_decide_eq_true hl
    rw [listBytes, List.length_append, bytesOf32_length] at hk
    rw [readList, listBytes]
    by_cases hlt : k < 4
    case pos => rw [readU32_of_length_lt (by rw [List.length_take]; omega)]
    case neg =>
      rw [List.take_append, List.take_of_length_le (by rw [bytesOf32_length]; omega), readU32_write]
      simp only [BitVec.toNat_ofNat, Nat.mod_eq_of_lt hlen, bytesOf32_length]
      exact readMany_take h l (by omega)

theorem codec_pair {readA : List Byte → Option (α × List Byte)}
    {readB : List Byte → Option (β × List Byte)} {writeA : α → List Byte} {writeB : β → List Byte}
    {fitsA : α → Bool} {fitsB : β → Bool} (hA : Codec readA writeA fitsA)
    (hB : Codec readB writeB fitsB) :
    Codec (readPair readA readB) (fun p => writeA p.1 ++ writeB p.2)
      (fun p => fitsA p.1 && fitsB p.2) where
  reads p rest hp := by
    obtain ⟨ha, hb⟩ := Bool.and_eq_true_iff.mp hp
    rw [readPair, List.append_assoc, hA.reads _ _ ha, Option.bind_some, hB.reads _ _ hb]
    rfl
  only bytes p rest hr := by
    obtain ⟨⟨a, r1⟩, ha, hr⟩ := Option.bind_eq_some_iff.mp hr
    obtain ⟨⟨b, r2⟩, hb, hp⟩ := Option.map_eq_some_iff.mp hr
    cases hp
    obtain ⟨fitA, hbytes⟩ := hA.only _ _ _ ha
    obtain ⟨fitB, hr1⟩ := hB.only _ _ _ hb
    dsimp only at hr1
    exact ⟨Bool.and_eq_true_iff.mpr ⟨fitA, fitB⟩, by rw [hbytes, hr1, List.append_assoc]⟩
  short p k hp hk := by
    obtain ⟨ha, hb⟩ := Bool.and_eq_true_iff.mp hp
    rw [List.length_append] at hk
    by_cases hlt : k < (writeA p.1).length
    case pos =>
      rw [readPair, List.take_append_of_le_length hlt.le, hA.short _ k ha hlt, Option.bind_none]
    case neg =>
      rw [readPair, List.take_append, List.take_of_length_le (Nat.not_lt.mp hlt),
        hA.reads _ _ ha, Option.bind_some, hB.short _ _ hb (by omega), Option.map_none]

end Codecs

/-! ### Commands -/

section Commands

variable {α β : Type}

/-- A command without operands has the operand that takes no bytes. -/
theorem withNone_eq (i : Instr) (bytes : List Byte) :
    withNone i bytes = withOne readNothing (fun _ => i) bytes := rfl

/-- Two operands are one pair. -/
theorem withTwo_eq (readA : List Byte → Option (α × List Byte))
    (readB : List Byte → Option (β × List Byte)) (mk : α → β → Instr) (bytes : List Byte) :
    withTwo readA readB mk bytes = withOne (readPair readA readB) (fun p => mk p.1 p.2) bytes := by
  unfold withTwo withOne readPair
  cases hA : readA bytes with
  | none => rfl
  | some p =>
    rw [Option.bind_some]
    cases hB : readB p.2 with
    | none => simp [hB]
    | some q => simp [hB]

/-- What the serialised form of `i` decodes to: `i` where it is whole, whatever follows, and a truncated
command where it is cut. -/
structure Serialises (i : Instr) : Prop where
  whole : ∀ rest, decode (encode i ++ rest) = .ok i rest
  cut : ∀ k < (encode i).length, decode ((encode i).take k) = .truncated

/-- A command byte and the operand of its row of R74. -/
theorem serialises_of_codec {read : List Byte → Option (α × List Byte)} {write : α → List Byte}
    {fits : α → Bool} {mk : α → Instr} {a : α} {cmd : Byte} (hc : Codec read write fits)
    (hdec : ∀ bytes, decodeOperands cmd bytes = withOne read mk bytes)
    (henc : encode (mk a) = cmd :: write a) (hfits : fits a = true) : Serialises (mk a) where
  whole rest := by
    rw [henc, List.cons_append, decode, hdec, withOne, hc.reads a rest hfits]
  cut k hk := by
    rw [henc] at hk ⊢
    cases k with
    | zero => rfl
    | succ k =>
      rw [List.take_succ_cons, decode, hdec, withOne,
        hc.short a k hfits (Nat.lt_of_succ_lt_succ hk)]

/-- A command byte alone. -/
theorem serialises_of_byte {i : Instr} {cmd : Byte}
    (hdec : ∀ bytes, decodeOperands cmd bytes = withNone i bytes) (henc : encode i = [cmd]) :
    Serialises i :=
  serialises_of_codec (mk := fun _ => i) (a := ()) codec_nothing hdec henc rfl

/-- A command byte and a pair of operands. -/
theorem serialises_of_codecs {readA : List Byte → Option (α × List Byte)}
    {readB : List Byte → Option (β × List Byte)} {writeA : α → List Byte} {writeB : β → List Byte}
    {fitsA : α → Bool} {fitsB : β → Bool} {mk : α → β → Instr} {a : α} {b : β} {cmd : Byte}
    (hA : Codec readA writeA fitsA) (hB : Codec readB writeB fitsB)
    (hdec : ∀ bytes, decodeOperands cmd bytes = withTwo readA readB mk bytes)
    (henc : encode (mk a b) = cmd :: (writeA a ++ writeB b)) (ha : fitsA a = true)
    (hb : fitsB b = true) : Serialises (mk a b) :=
  serialises_of_codec (mk := fun p : α × β => mk p.1 p.2) (a := (a, b)) (codec_pair hA hB)
    (fun bytes => (hdec bytes).trans (withTwo_eq readA readB mk bytes)) henc
    (Bool.and_eq_true_iff.mpr ⟨ha, hb⟩)

/-- The `cmd` values R74 lists. -/
def isListed (n : Nat) : Bool :=
  decide (n ≤ 0x05 ∨ (0x10 ≤ n ∧ n ≤ 0x12) ∨ (0x20 ≤ n ∧ n ≤ 0x22) ∨ (0x30 ≤ n ∧ n ≤ 0x34) ∨
    (0x40 ≤ n ∧ n ≤ 0x44) ∨ (0x50 ≤ n ∧ n ≤ 0x55) ∨ (0x60 ≤ n ∧ n ≤ 0x66) ∨
    (0x70 ≤ n ∧ n ≤ 0x77) ∨ (0x80 ≤ n ∧ n ≤ 0x88 ∧ n ≠ 0x85))

/-- What the decoder's answer `d` at a listed command byte says: the byte is not reserved, and an
operation is read from its serialised form only. -/
structure ReadsListed (cmd : Byte) (bytes : List Byte) (d : Decoded) : Prop where
  listed : isListed cmd.toNat = true
  not_reserved : d ≠ .reserved cmd
  serialised : ∀ i rest, d = .ok i rest → i.wellFormed = true ∧ cmd :: bytes = encode i ++ rest

/-- As `serialises_of_codec`, the other way round. -/
theorem readsListed_of_codec {read : List Byte → Option (α × List Byte)} {write : α → List Byte}
    {fits : α → Bool} {mk : α → Instr} {cmd : Byte} {n : Nat} {bytes : List Byte}
    (hc : Codec read write fits) (hcmd : cmd.toNat = n) (hlisted : isListed n = true)
    (henc : ∀ a, encode (mk a) = BitVec.ofNat 8 n :: write a)
    (hwf : ∀ a, fits a = true → (mk a).wellFormed = true) :
    ReadsListed cmd bytes (withOne read mk bytes) := by
  refine ⟨hcmd ▸ hlisted, ?notReserved, ?serialised⟩
  case notReserved => rw [withOne]; split <;> exact Decoded.noConfusion
  case serialised =>
    intro i rest h
    rw [withOne] at h
    split at h
    case h_1 => cases h
    case h_2 a r ha =>
      cases h
      obtain ⟨hfits, hbytes⟩ := hc.only _ _ _ ha
      have hbyte : cmd = BitVec.ofNat 8 n := by
        rw [← hcmd, BitVec.ofNat_toNat, BitVec.setWidth_eq]
      exact ⟨hwf a hfits, by rw [henc, hbyte, hbytes, List.cons_append]⟩

end Commands

/-! ### The rows of R74, by the type of their operands -/

theorem serialises_of_wellFormed (i : Instr) (h : i.wellFormed = true) : Serialises i := by
  cases i with
  | oscReset | oscNextSample | goertzelReset | fskdetReset | bpfReset | cbpfReset | baudotReset
  | varicodeReset | fskdemodReset | fskdemodGetStrength | fskdemodGetDetected | pskdemodReset
  | pskdemodGetStrength | pskdemodGetDetected | pskdemodGetTimingError =>
    exact serialises_of_byte (fun _ => rfl) rfl
  | baudotDecode b | varicodeDecodeBit b | fskdemodSetReverse b =>
    exact serialises_of_codec codec_u8 (fun _ => rfl) rfl rfl
  | oscGenerateCount w | baudotEncodeChar w | varicodeEncodeChar w | varicodeBitLength w =>
    exact serialises_of_codec codec_u32 (fun _ => rfl) rfl rfl
  | oscGenerateDuration x | oscSetFrequency x | oscSetPhase x | goertzelProcess x | fskdetProcess x
  | bpfProcess x | bpfMag x | bpfMagDb x | cbpfProcess x | cbpfMag x | cbpfMagDb x
  | fskdemodProcessSample x | fskdemodTune x | fskdemodSetSquelch x | pskdemodProcessSample x
  | pskdemodTune x | pskdemodSetSquelch x =>
    exact serialises_of_codec codec_f32 (fun _ => rfl) rfl rfl
  | baudotDecodeCodes l | varicodeDecodeBits l =>
    exact serialises_of_codec (codec_list codec_u8) (fun _ => rfl) rfl h
  | baudotEncodeString l | varicodeEncodeString l =>
    exact serialises_of_codec (codec_list codec_u32) (fun _ => rfl) rfl h
  | goertzelProcessBlock l | fskdetProcessBlock l | bpfProcessBlock l | cbpfProcessBlock l
  | fskdemodProcessBlock l | pskdemodProcessBlock l =>
    exact serialises_of_codec (codec_list codec_f32) (fun _ => rfl) rfl h
  | baudotEncodeWithPreamble l n | varicodeEncodeWithPreamble l n =>
    exact serialises_of_codecs (codec_list codec_u32) codec_u32 (fun _ => rfl) rfl h rfl

/-- Every command byte is listed and read by its row, or not listed and reserved. -/
theorem decodeOperands_cases (cmd : Byte) (bytes : List Byte) :
    ReadsListed cmd bytes (decodeOperands cmd bytes) ∨
      isListed cmd.toNat = false ∧ decodeOperands cmd bytes = .reserved cmd := by
  rw [decodeOperands]
  split
  case h_52 => exact .inr ⟨decide_eq_false (by simp only [imp_false] at *; omega), rfl⟩
  all_goals refine .inl ?_
  case h_1 | h_2 | h_7 | h_10 | h_13 | h_18 | h_23 | h_29 | h_36 | h_42 | h_43 | h_44 | h_49 | h_50
    | h_51 =>
    rw [withNone_eq]
    exact readsListed_of_codec codec_nothing ‹cmd.toNat = _› rfl (fun _ => rfl) (fun _ _ => rfl)
  case h_24 | h_30 | h_41 =>
    exact readsListed_of_codec codec_u8 ‹cmd.toNat = _› rfl (fun _ => rfl) (fun _ _ => rfl)
  case h_3 | h_26 | h_32 | h_35 =>
    exact readsListed_of_codec codec_u32 ‹cmd.toNat = _› rfl (fun _ => rfl) (fun _ _ => rfl)
  case h_4 | h_5 | h_6 | h_8 | h_11 | h_14 | h_16 | h_17 | h_19 | h_21 | h_22 | h_37 | h_39 | h_40
    | h_45 | h_47 | h_48 =>
    exact readsListed_of_codec codec_f32 ‹cmd.toNat = _› rfl (fun _ => rfl) (fun _ _ => rfl)
  case h_25 | h_31 =>
    exact readsListed_of_codec (codec_list codec_u8) ‹cmd.toNat = _› rfl (fun _ => rfl) (fun _ h => h)
  case h_27 | h_33 =>
    exact readsListed_of_codec (codec_list codec_u32) ‹cmd.toNat = _› rfl (fun _ => rfl) (fun _ h => h)
  case h_9 | h_12 | h_15 | h_20 | h_38 | h_46 =>
    exact readsListed_of_codec (codec_list codec_f32) ‹cmd.toNat = _› rfl (fun _ => rfl) (fun _ h => h)
  case h_28 | h_34 =>
    rw [withTwo_eq]
    exact readsListed_of_codec (codec_pair (codec_list codec_u32) codec_u32)
      ‹cmd.toNat = _› rfl (fun _ => rfl) (fun _ h => (Bool.and_eq_true_iff.mp h).1)

/-- R70, R73: the serialised form of every operation begins with a command byte of its unit. -/
theorem encode_cmdUnit (i : Instr) : Laws.CmdUnit.Statement i := by
  cases i <;> exact ⟨_, _, rfl, rfl⟩

/-- Settles O9: every row's codec reads back what it writes. -/
theorem decodeEncode : Obligations.DecodeEncode :=
  fun i rest h => (serialises_of_wellFormed i h).whole rest

/-- Settles O10: every row's codec reads only what it writes, and a reserved byte gives no operation. -/
theorem encodeDecode : Obligations.EncodeDecode := by
  intro bytes rest i h
  cases bytes with
  | nil => cases h
  | cons cmd bytes =>
    rcases decodeOperands_cases cmd bytes with hread | ⟨-, hreserved⟩
    · exact hread.serialised i rest h
    · cases hreserved.symm.trans h

/-- Settles O11: every row's codec answers nothing where the bytes end inside its operands. -/
theorem prefixTruncated : Obligations.PrefixTruncated :=
  fun i k h => (serialises_of_wellFormed i h).cut k

/-- Settles O7: a listed byte is read by its row, which never answers reserved. -/
theorem reservedCommands : Obligations.ReservedCommands := by
  intro cmd bytes
  rw [decode]
  rcases decodeOperands_cases cmd bytes with hread | ⟨hlisted, hreserved⟩
  · exact iff_of_false hread.not_reserved (not_not.mpr (of_decide_eq_true hread.listed))
  · exact iff_of_true hreserved (of_decide_eq_false hlisted)

/-- Settles O8: the decoder evaluated on the nine byte strings. -/
theorem decodedWords : Obligations.DecodedWords := by
  unfold Obligations.DecodedWords
  decide

end Sys2Proof

namespace Sys2Proof.Machine

/-! ### Taking a command from the stream of an instance -/

/-- R310: bytes of another unit kind are reserved before their operands are looked at. -/
theorem fetch_of_ne {k : UnitKind} {cmd : Byte} (bytes : List Byte) (h : unitNumber cmd ≠ k.number) :
    fetch k (cmd :: bytes) = .refused .reservedCommand := by
  rw [fetch, if_neg h]

theorem fetch_of_ok {k : UnitKind} {cmd : Byte} {bytes left : List Byte} {i : Instr}
    (hunit : unitNumber cmd = k.number) (hdec : decode (cmd :: bytes) = .ok i left) :
    fetch k (cmd :: bytes) = .ok i left := by
  rw [decode] at hdec
  rw [fetch, if_pos hunit, hdec]

theorem fetch_of_reserved {k : UnitKind} {cmd cmd' : Byte} {bytes : List Byte}
    (hdec : decode (cmd :: bytes) = .reserved cmd') :
    fetch k (cmd :: bytes) = .refused .reservedCommand := by
  rw [decode] at hdec
  rw [fetch, hdec, ite_self]

theorem fetch_of_truncated {k : UnitKind} {cmd : Byte} {bytes : List Byte}
    (hunit : unitNumber cmd = k.number) (hdec : decode (cmd :: bytes) = .truncated) :
    fetch k (cmd :: bytes) = .refused .truncated := by
  rw [decode] at hdec
  rw [fetch, if_pos hunit, hdec]

section StepCommand

variable {s : State} {id : Nat} {v : Instance F64} {bytes : List Byte} {rest : List Request}

/-- A step whose request is a command: what `fetch` finds of it is performed or refused. -/
theorem step_command_refused {reason : Reason} (hin : s.input = .command id bytes :: rest)
    (hv : lookupInstance id s.instances = some v) (hf : fetch v.kind bytes = .refused reason) :
    step s = .next (State.refuse { s with addressed := id, input := rest } reason) := by
  simp only [step, hin, stepCommand, hv, hf]

theorem step_command_ok {i : Instr} {left : List Byte} (hin : s.input = .command id bytes :: rest)
    (hv : lookupInstance id s.instances = some v) (hf : fetch v.kind bytes = .ok i left) :
    step s = exec i { s with addressed := id, input := remaining id left rest } := by
  simp only [step, hin, stepCommand, hv, hf]

theorem step_command_missing (hin : s.input = .command id bytes :: rest)
    (hv : lookupInstance id s.instances = none) : step s = .fault .noInstance := by
  simp only [step, hin, stepCommand, hv]

end StepCommand

/-- Settles O5: the first byte of the serialised form passes the test of the unit, and the rest is
`decodeEncode`. -/
theorem stepRunsDecoded : Obligations.StepRunsDecoded := by
  intro s id v i left rest hin hv hwf hkind
  have hdec := decodeEncode i left hwf
  obtain ⟨cmd, bytes, henc, hunit⟩ := encode_cmdUnit i
  rw [henc, List.cons_append] at hin hdec
  rw [step_command_ok hin hv (fetch_of_ok (hunit.trans (congrArg _ hkind)) hdec), remaining]
  simp only [List.isEmpty_iff]

/-- Settles O6: the tests of R310 in their order. -/
theorem reservedOrTruncatedRefused : Obligations.ReservedOrTruncatedRefused := by
  intro s id v cmd bytes rest hin hv refused
  constructor
  · rintro (hreserved | hunit)
    · exact step_command_refused hin hv (fetch_of_reserved hreserved)
    · exact step_command_refused hin hv (fetch_of_ne bytes hunit)
  · intro htruncated hunit
    exact step_command_refused hin hv (fetch_of_truncated hunit htruncated)

end Sys2Proof.Machine

/-! PROOFS. Instances are independent (R43, R60, R300): every arm of `exec` is one function of the addressed
instance, so that a command is determined by that function and by what it makes of the map of instances. -/

namespace Sys2Proof.Machine

/-! ### A command as a function of its instance -/

section Locality

variable {U : Type}

/-- An operation of one unit kind as an operation on any instance: another kind refuses it (R76). -/
def onAnyInstance (proj : Instance F64 → Option U) (inj : U → Instance F64) (f : U → Performed U)
    (v : Instance F64) : Performed (Instance F64) :=
  match proj v with
  | some u => (f u).map fun p => (inj p.1, p.2)
  | none => .error .reservedCommand

theorem onUnit_eq_onAnyInstance (proj : Instance F64 → Option U) (inj : U → Instance F64) (s : State)
    (f : U → Performed U) :
    onUnit proj inj s f = onUnit some id s (onAnyInstance proj inj f) := by
  simp only [onUnit, onAnyInstance]
  cases s.unit? with
  | none => rfl
  | some v =>
    cases hu : proj v with
    | none => simp only [hu, finish]
    | some u => cases hf : f u <;> simp only [hu, hf, finish, Except.map, id]

/-- Every arm of `exec` is an operation of one unit kind. -/
theorem exec_local (i : Instr) :
    ∃ g : Instance F64 → Performed (Instance F64), ∀ s, exec i s = onUnit some id s g := by
  cases i <;> exact ⟨_, fun s => onUnit_eq_onAnyInstance _ _ s _⟩

/-- R300: where the addressed instance exists a command has a next state. -/
theorem exec_total (i : Instr) {s : State} (h : s.unit? ≠ none) : ∃ t, exec i s = .next t := by
  obtain ⟨g, hg⟩ := exec_local i
  rw [hg]
  rcases onUnit_cases some id s g with ⟨hnone, -⟩ | ⟨_, _, _, h⟩ | ⟨_, _, _, _, _, _, h⟩ |
    ⟨_, _, _, _, _, _, _, h⟩
  · exact absurd hnone h
  all_goals exact ⟨_, h⟩

end Locality

/-! ### What a command makes of the map -/

/-- The instance after an operation: as it was where the operation is refused. -/
def afterOperation (g : Instance F64 → Performed (Instance F64)) (v : Instance F64) : Instance F64 :=
  match g v with
  | .ok p => p.1
  | .error _ => v

/-- The map after an operation on the instance at `id`. -/
def updateInstance (id : Nat) (g : Instance F64 → Performed (Instance F64))
    (m : List (Nat × Instance F64)) : List (Nat × Instance F64) :=
  match lookupInstance id m with
  | some v => match g v with
    | .ok p => setInstance id p.1 m
    | .error _ => m
  | none => m

section Update

variable {g : Instance F64 → Performed (Instance F64)} {a k : Nat} {m : List (Nat × Instance F64)}

/-- An operation that has a next state updates the map at the addressed identifier. -/
theorem onUnit_next_instances {s t : State} (h : onUnit some id s g = .next t) :
    t.instances = updateInstance s.addressed g s.instances := by
  rcases onUnit_cases some id s g with ⟨_, he⟩ | ⟨_, _, hproj, _⟩ | ⟨v, u, reason, hv, hproj, hg, he⟩ |
    ⟨v, u, u', r, hv, hproj, hg, he⟩
  · cases he.symm.trans h
  · cases hproj
  all_goals
    cases hproj
    cases he.symm.trans h
    rw [State.unit?] at hv
    simp only [updateInstance, hv, hg, refuse_instances, complete_instances, id]

theorem lookup_update_other (h : k ≠ a) :
    lookupInstance k (updateInstance a g m) = lookupInstance k m := by
  unfold updateInstance
  split
  · split
    · exact lookup_set_other _ _ _ _ h
    · rfl
  · rfl

theorem lookup_update_same :
    lookupInstance a (updateInstance a g m) = (lookupInstance a m).map (afterOperation g) := by
  unfold updateInstance afterOperation
  cases hv : lookupInstance a m with
  | none => exact hv
  | some v => cases hg : g v <;> simp [hg, hv, lookup_set_same]

theorem rising_update (hm : risingFrom 0 m = true) : risingFrom 0 (updateInstance a g m) = true := by
  unfold updateInstance
  split
  · split
    · exact rising_set _ (Nat.zero_le _) hm
    · exact hm
  · exact hm

/-- Operations at two identifiers commute on a canonical map. -/
theorem update_comm {f : Instance F64 → Performed (Instance F64)} {b : Nat} (hab : a ≠ b)
    (hm : risingFrom 0 m = true) :
    updateInstance b g (updateInstance a f m) = updateInstance a f (updateInstance b g m) := by
  refine rising_ext (rising_update (rising_update hm)) (rising_update (rising_update hm)) fun k => ?_
  by_cases ha : k = a
  · subst ha
    rw [lookup_update_other hab, lookup_update_same, lookup_update_same, lookup_update_other hab]
  · by_cases hb : k = b
    · subst hb
      rw [lookup_update_same, lookup_update_other ha, lookup_update_other ha, lookup_update_same]
    · rw [lookup_update_other hb, lookup_update_other ha, lookup_update_other ha,
        lookup_update_other hb]

end Update

/-- Settles O12: the arms of `exec` are total on an existing instance, and a step that takes no command
for a missing instance ends in one of them, in a refusal or in an action of the surrounding system. -/
theorem commandsAreTotal : Obligations.CommandsAreTotal := by
  refine ⟨fun i s h => exec_total i h, fun s hserved => ?served, fun s hserved => ?notServed⟩
  case served =>
    match hin : s.input with
    | [] => exact ⟨s, by rw [step, hin]⟩
    | .instantiate id p :: rest => exact ⟨_, by rw [step, hin]⟩
    | .discard id :: rest => exact ⟨_, by rw [step, hin]⟩
    | .command id bytes :: rest =>
      rw [State.served, hin] at hserved
      obtain ⟨v, hv⟩ := Option.isSome_iff_exists.mp hserved
      cases hf : fetch v.kind bytes with
      | refused reason => exact ⟨_, step_command_refused hin hv hf⟩
      | ok i left =>
        rw [step_command_ok hin hv hf]
        apply exec_total
        simp [State.unit?, hv]
  case notServed =>
    rw [State.served] at hserved
    split at hserved
    case h_1 id bytes rest hin =>
      exact step_command_missing hin (by simpa using hserved)
    case h_2 => cases hserved

/-- Settles O30: `exec` is a function of the addressed instance, and appends one record. -/
theorem instancesIsolated : Obligations.InstancesIsolated := by
  intro i s t haddr hunit hexists
  obtain ⟨g, hg⟩ := exec_local i
  obtain ⟨v, hv⟩ := Option.ne_none_iff_exists'.mp hexists
  rw [hg, hg]
  have hvt : t.unit? = some v := hunit ▸ hv
  cases hperform : g v with
  | ok p =>
    refine ⟨_, _, _, onUnit_ok hv rfl hperform, onUnit_ok hvt rfl hperform, ?_, rfl, ?_⟩
    · rw [complete_unit?, complete_unit?]
    · rw [complete_output, haddr]
  | error reason =>
    refine ⟨_, _, _, onUnit_error hv rfl hperform, onUnit_error hvt rfl hperform, hunit, rfl, ?_⟩
    rw [refuse_output, haddr]

/-- Settles O31: each command updates the map at its own identifier, and such updates commute on a
canonical map. -/
theorem commandsCommute : Obligations.CommandsCommute := by
  intro i j s s1 s2 t1 t2 a b hinv hab hs1 hs2 ht1 ht2
  obtain ⟨f, hf⟩ := exec_local i
  obtain ⟨g, hg⟩ := exec_local j
  obtain ⟨hrising, -⟩ := Bool.and_eq_true_iff.mp hinv
  rw [hf] at hs1 ht2
  rw [hg] at hs2 ht1
  have e1 := onUnit_next_instances hs1
  have e2 := onUnit_next_instances hs2
  have e3 := onUnit_next_instances ht1
  have e4 := onUnit_next_instances ht2
  dsimp only at e1 e2 e3 e4
  rw [e2, e1, e4, e3, update_comm hab hrising]

end Sys2Proof.Machine

/-! PROOFS. The surrounding system (R330, R332): what instantiation makes, what discarding and idling leave,
and that what is made is well formed. -/

namespace Sys2Proof.Machine

/-! ### The actions of the surrounding system -/

section Surrounding

variable {s : State} {id : Nat} {rest : List Request}

theorem step_idle (hin : s.input = []) : step s = .next s := by rw [step, hin]

theorem step_discard (hin : s.input = .discard id :: rest) :
    step s = .next (State.discard { s with input := rest } id) := by rw [step, hin]

theorem step_instantiate {p : Params F64} (hin : s.input = .instantiate id p :: rest) :
    step s = .next (State.instantiate { s with input := rest } id p) := by rw [step, hin]

theorem instantiate_of_valid {p : Params F64} (h : p.valid machineConfig = true) :
    s.instantiate id p =
      { s with instances := setInstance id (p.fresh machineConfig) s.instances } := if_pos h

theorem instantiate_of_not_valid {p : Params F64} (h : ¬ p.valid machineConfig = true) :
    s.instantiate id p = { s with output := s.output ++ [.rejected id] } := if_neg h

end Surrounding

/-! ### The preconditions of R302 -/

section Valid

variable {F : Type} (C : Config F)

theorem BpfParams.valid_iff (p : BpfParams F) :
    p.valid C = true ↔
      C.num.isFinite p.fs = true ∧ C.num.isFinite p.low = true ∧ C.num.isFinite p.high = true ∧
        C.num.lt C.num.zero p.fs = true ∧ C.num.lt C.num.zero p.low = true ∧
        C.num.lt p.low p.high = true ∧ C.num.lt p.high (C.num.div p.fs (C.num.int 2)) = true := by
  simp only [BpfParams.valid, Bool.and_eq_true, and_assoc]

/-- R200: the number of samples per bit, as the count the registers use. -/
theorem FskParams.le_spb_iff (p : FskParams F) {n : Nat} (hn : 0 < n) :
    n ≤ p.spb C ↔ (n : Int) ≤ C.num.floor (C.num.div p.fs p.baud) := by
  rw [FskParams.spb]
  omega

theorem PskParams.le_symbolLength_iff (p : PskParams F) {n : Nat} (hn : 0 < n) :
    n ≤ p.symbolLength C ↔ (n : Int) ≤ C.num.floor (C.num.div p.fs p.baud) := by
  rw [PskParams.symbolLength]
  omega

theorem FskParams.valid_iff (p : FskParams F) :
    p.valid C = true ↔
      C.num.isFinite p.fs = true ∧ C.num.isFinite p.baud = true ∧ C.num.isFinite p.mark = true ∧
        C.num.isFinite p.shift = true ∧ C.num.isFinite p.minConfidence = true ∧
        C.num.lt C.num.zero p.fs = true ∧ C.num.lt C.num.zero p.baud = true ∧ 4 ≤ p.spb C ∧
        C.num.le C.num.zero p.minConfidence = true ∧ C.num.le p.minConfidence C.num.one = true ∧
        p.validMark C p.mark = true := by
  simp only [FskParams.valid, Bool.and_eq_true, decide_eq_true_eq, and_assoc]

theorem PskParams.valid_iff (p : PskParams F) :
    p.valid C = true ↔
      C.num.isFinite p.fs = true ∧ C.num.isFinite p.baud = true ∧ C.num.isFinite p.center = true ∧
        C.num.lt C.num.zero p.fs = true ∧ C.num.lt C.num.zero p.baud = true ∧
        2 ≤ p.symbolLength C ∧ p.validCenter C p.center = true := by
  simp only [PskParams.valid, Bool.and_eq_true, decide_eq_true_eq, and_assoc]

end Valid

/-- Settles O3: the table of R302, unit by unit, is `Params.valid`, on which instantiation branches. -/
theorem instantiation : Obligations.Instantiation := by
  intro s id p rest hin N nyquist band legal
  have hband (q : BpfParams F64) : q.valid machineConfig = true ↔ band q := q.valid_iff machineConfig
  have hlegal : p.valid machineConfig = true ↔ legal := by
    cases p with
    | osc q | goertzel q | fskdet q =>
      simp only [Params.valid, Bool.and_eq_true, decide_eq_true_eq, and_assoc]
      exact Iff.rfl
    | bpf q => exact hband q
    | cbpf q =>
      simp only [Params.valid, Bool.and_eq_true, decide_eq_true_eq, hband]
      exact Iff.rfl
    | baudot | varicode => exact iff_of_true rfl trivial
    | fskdemod q =>
      rw [Params.valid, FskParams.valid_iff, FskParams.le_spb_iff _ _ (by decide), validMark_iff]
      exact Iff.rfl
    | pskdemod q =>
      rw [Params.valid, PskParams.valid_iff, PskParams.le_symbolLength_iff _ _ (by decide),
        validCenter_iff]
      exact Iff.rfl
  rw [← hlegal, step_instantiate hin]
  constructor
  · intro h
    refine ⟨_, rfl, ?_, fun k hk => ?_, instantiate_addressed _ _ _, instantiate_input _ _ _, ?_⟩
    all_goals rw [instantiate_of_valid h]
    · exact lookup_set_same _ _ _
    · exact lookup_set_other _ _ _ _ hk
  · intro h
    rw [instantiate_of_not_valid h]

/-- Settles O4: discarding erases one entry of the canonical map. -/
theorem discardAndIdle : Obligations.DiscardAndIdle := by
  refine ⟨fun s id rest hin hinv => ?_, fun s hin => step_idle hin⟩
  obtain ⟨hrising, -⟩ := Bool.and_eq_true_iff.mp hinv
  exact ⟨_, step_discard hin, lookup_erase_same hrising, fun k hk => lookup_erase_other _ _ _ hk,
    rfl, rfl, rfl⟩

/-! ### Instantiation (R332) -/

/-- Settles O1: the registers one by one; the lists are replicated zeros and cleared memories. -/
theorem initValues : Obligations.InitValues := by
  intro F C z
  refine ⟨fun p => ⟨rfl, rfl⟩, fun p => rfl, fun p => ⟨rfl, rfl⟩, fun p => rfl, ?cbpf, rfl, rfl, rfl,
    ?fsk, ?psk⟩
  case cbpf => exact fun p => ⟨List.length_replicate, fun b => List.eq_of_mem_replicate⟩
  case fsk =>
    intro p u
    exact ⟨rfl, rfl, rfl, List.length_replicate, fun b => List.eq_of_mem_replicate, rfl,
      List.length_replicate, fun x => List.eq_of_mem_replicate, rfl, rfl, rfl,
      List.length_replicate, fun x => List.eq_of_mem_replicate, rfl, rfl, rfl, rfl, rfl, rfl, rfl,
      rfl, rfl, rfl, rfl, rfl⟩
  case psk =>
    intro p u
    exact ⟨rfl, rfl, rfl, rfl, rfl, rfl, rfl, rfl, rfl, rfl, rfl, rfl, rfl, rfl, rfl, rfl, rfl, rfl,
      rfl, rfl⟩

/-- Log 2: the parameters of the instances of reset are legal. -/
theorem resetParams_valid (k : UnitKind) : (resetParams b64 k).valid machineConfig = true := by
  cases k <;> decide +kernel

/-- Settles O2: the nine entries of the map of reset. -/
theorem resetInstances : Obligations.ResetInstances :=
  ⟨fun k => ⟨by cases k <;> rfl, resetParams_valid k⟩, rfl, rfl⟩

/-! ### What is made is well formed -/

section Fresh

/-- The bounds of the clamped registers of R32, R33, R36 and R40 are numbers in order. -/
theorem clampBounds :
    (b64.isFinite machineConfig.gainMin = true ∧ b64.isFinite machineConfig.gainMax = true ∧
      b64.le machineConfig.gainMin machineConfig.gainMax = true) ∧
    (b64.isFinite machineConfig.nfMin = true ∧ b64.isFinite machineConfig.nfMax = true ∧
      b64.le machineConfig.nfMin machineConfig.nfMax = true) ∧
    (b64.isFinite b64.zero = true ∧ b64.isFinite b64.one = true ∧
      b64.le b64.zero b64.one = true) := by
  decide +kernel

/-- The init values of the clamped registers are within their clamps. -/
theorem initClamped :
    withinBounds machineConfig b64.one machineConfig.gainMin machineConfig.gainMax = true ∧
    withinBounds machineConfig machineConfig.nfInit machineConfig.nfMin machineConfig.nfMax = true ∧
    withinBounds machineConfig b64.one b64.zero b64.one = true ∧
    withinBounds machineConfig b64.zero b64.zero b64.one = true := by
  decide +kernel

/-- R36 in each state of the automaton. -/
theorem frameInRange_waiting_iff {u : FskDemod F64} (h : u.phase = .waitingForStart) :
    u.frameInRange machineConfig = true ↔
      u.tick = 0 ∧ u.bitIndex = 0 ∧ u.code = 0 ∧ u.minConf = b64.one := by
  rw [FskDemod.frameInRange, h]
  exact decide_eq_true_iff

theorem frameInRange_start_iff {u : FskDemod F64} (h : u.phase = .inStartBit) :
    u.frameInRange machineConfig = true ↔
      (u.tick = 2 ∨ u.tick = 3) ∧ u.bitIndex = 0 ∧ u.code = 0 ∧ u.minConf = b64.one := by
  rw [FskDemod.frameInRange, h]
  exact decide_eq_true_iff

theorem frameInRange_data_iff {u : FskDemod F64} (h : u.phase = .receivingData) :
    u.frameInRange machineConfig = true ↔
      u.tick ≤ 3 ∧ u.bitIndex ≤ 4 ∧
        u.code.toNat < 2 ^ (u.bitIndex + if u.tick = 3 then 1 else 0) := by
  rw [FskDemod.frameInRange, h]
  exact decide_eq_true_iff

theorem frameInRange_stop_iff {u : FskDemod F64} (h : u.phase = .inStopBits) :
    u.frameInRange machineConfig = true ↔ u.tick ≤ 2 ∧ u.bitIndex = 4 := by
  rw [FskDemod.frameInRange, h]
  exact decide_eq_true_iff

/-- `FskDemod.inRange`, its clauses by name. -/
structure FskDemod.Ranges (u : FskDemod F64) : Prop where
  mark : u.par.validMark machineConfig u.markTuned = true
  sections : u.bpf.length = machineConfig.bpfSections
  gain : withinBounds machineConfig u.gain machineConfig.gainMin machineConfig.gainMax = true
  ring : u.ring.length = u.par.window machineConfig
  wpos : u.wpos < u.par.window machineConfig
  sampleCount : u.sampleCount < u.par.step machineConfig
  hist : u.hist.length = machineConfig.histLen
  noiseFloor :
    withinBounds machineConfig u.noiseFloor machineConfig.nfMin machineConfig.nfMax = true
  afcCount : u.afcCount < machineConfig.afcPeriod
  minConf : withinBounds machineConfig u.minConf b64.zero b64.one = true
  frame : u.frameInRange machineConfig = true

theorem FskDemod.inRange_iff (u : FskDemod F64) : u.inRange machineConfig = true ↔ u.Ranges := by
  simp only [FskDemod.inRange, Bool.and_eq_true, decide_eq_true_eq, and_assoc]
  exact ⟨fun ⟨h1, h2, h3, h4, h5, h6, h7, h8, h9, h10, h11⟩ =>
      ⟨h1, h2, h3, h4, h5, h6, h7, h8, h9, h10, h11⟩,
    fun ⟨h1, h2, h3, h4, h5, h6, h7, h8, h9, h10, h11⟩ =>
      ⟨h1, h2, h3, h4, h5, h6, h7, h8, h9, h10, h11⟩⟩

/-- `PskDemod.inRange`, its clauses by name. -/
structure PskDemod.Ranges (u : PskDemod F64) : Prop where
  center : u.par.validCenter machineConfig u.centerTuned = true
  loPhase : phaseInRange machineConfig u.loPhase = true
  n : u.n < u.par.symbolLength machineConfig
  strength : withinBounds machineConfig u.strength b64.zero b64.one = true
  dec : u.dec.inRange machineConfig = true

theorem PskDemod.inRange_iff (u : PskDemod F64) : u.inRange machineConfig = true ↔ u.Ranges := by
  simp only [PskDemod.inRange, Bool.and_eq_true, decide_eq_true_eq, and_assoc]
  exact ⟨fun ⟨h1, h2, h3, h4, h5⟩ => ⟨h1, h2, h3, h4, h5⟩,
    fun ⟨h1, h2, h3, h4, h5⟩ => ⟨h1, h2, h3, h4, h5⟩⟩

/-- A fresh FSKDEMOD is in range, at whatever valid mark frequency it starts; RESET and TUNE leave it so,
with other settings (R331, R333). -/
theorem initFsk_ranges {p : FskParams F64} (hspb : 4 ≤ p.spb machineConfig) {f squelch : F64}
    {reverse : Bool} (hmark : p.validMark machineConfig f = true) :
    ({ initFsk machineConfig p with
        markTuned := f, squelchManual := squelch, reverse := reverse } : FskDemod F64).Ranges where
  mark := hmark
  sections := List.length_replicate
  gain := initClamped.1
  ring := List.length_replicate
  wpos := Nat.div_pos (le_trans (by decide) hspb) (by decide)
  sampleCount := Nat.div_pos hspb (by decide)
  hist := List.length_replicate
  noiseFloor := initClamped.2.1
  afcCount := Nat.zero_lt_succ 7
  minConf := initClamped.2.2.1
  frame := (frameInRange_waiting_iff rfl).mpr ⟨rfl, rfl, rfl, rfl⟩

/-- The same of PSKDEMOD. -/
theorem initPsk_ranges {p : PskParams F64} (hlen : 2 ≤ p.symbolLength machineConfig) {f squelch : F64}
    (hcenter : p.validCenter machineConfig f = true) :
    ({ initPsk machineConfig p with
        centerTuned := f, squelch := squelch } : PskDemod F64).Ranges where
  center := hcenter
  loPhase := phaseInRange_zero
  n := lt_of_lt_of_le Nat.two_pos hlen
  strength := initClamped.2.2.2
  dec := rfl

/-- R330: legal parameters make a well-formed instance. -/
theorem fresh_wf {p : Params F64} (h : p.valid machineConfig = true) :
    (p.fresh machineConfig).wf machineConfig = true := by
  refine Bool.and_eq_true_iff.mpr ?_
  cases p with
  | osc p => exact ⟨h, phaseInRange_zero⟩
  | goertzel p => exact ⟨h, (Bool.and_eq_true_iff.mp h).2⟩
  | fskdet p =>
    have hn := (Bool.and_eq_true_iff.mp h).2
    exact ⟨h, Bool.and_eq_true_iff.mpr ⟨Bool.and_eq_true_iff.mpr ⟨hn, hn⟩, rfl⟩⟩
  | bpf p => exact ⟨h, rfl⟩
  | cbpf p => exact ⟨h, decide_eq_true List.length_replicate⟩
  | baudot => exact ⟨h, rfl⟩
  | varicode => exact ⟨h, rfl⟩
  | fskdemod p =>
    obtain ⟨-, -, -, -, -, -, -, hspb, -, -, hmark⟩ := (p.valid_iff machineConfig).mp h
    exact ⟨h, (FskDemod.inRange_iff _).mpr (initFsk_ranges hspb hmark)⟩
  | pskdemod p =>
    obtain ⟨-, -, -, -, -, hlen, hcenter⟩ := (p.valid_iff machineConfig).mp h
    exact ⟨h, (PskDemod.inRange_iff _).mpr (initPsk_ranges hlen hcenter)⟩

end Fresh

/-- Settles O34: the map of reset is canonical, and each of its instances is fresh. -/
theorem invAtReset : Obligations.InvAtReset := by
  have hwf (k : UnitKind) : (resetInstance k).wf machineConfig = true := fresh_wf (resetParams_valid k)
  refine Bool.and_eq_true_iff.mpr ⟨rfl, ?_⟩
  simp only [State.reset, List.all_cons, List.all_nil, hwf, Bool.and_self]

end Sys2Proof.Machine

/-! PROOFS. The invariant of the machine is kept by every step (R322, and the ranges of spec/10_state.md):
each operation of a unit keeps its instance well formed, whatever the arithmetic answers. -/

namespace Sys2Proof.Machine

/-! ### Operations that keep an instance well formed -/

section Keeps

variable {U : Type} {k : Unit → Performed U} {p : U × Result} {v : Instance F64}

/-- An operation of a unit leaves a well-formed instance well formed. -/
def KeepsWf (inj : U → Instance F64) (f : U → Performed U) : Prop :=
  ∀ u p, (inj u).wf machineConfig = true → f u = .ok p → (inj p.1).wf machineConfig = true

theorem requireFinite_ok {x : F32} (h : requireFinite x k = .ok p) : k () = .ok p := by
  rw [requireFinite] at h
  split at h
  · exact h
  · cases h

theorem requireAllFinite_ok {xs : List F32} (h : requireAllFinite xs k = .ok p) : k () = .ok p := by
  rw [requireAllFinite] at h
  split at h
  · exact h
  · cases h

theorem requireLength_ok {xs : List F32} {n : Nat} (h : requireLength xs n k = .ok p) :
    k () = .ok p := by
  rw [requireLength] at h
  split at h
  · exact h
  · cases h

theorem requireShort_ok {n : Nat} (h : requireShort n k = .ok p) : k () = .ok p := by
  rw [requireShort] at h
  split at h
  · exact h
  · cases h

theorem wf_iff :
    v.wf machineConfig = true ↔
      v.params.valid machineConfig = true ∧ v.inRange machineConfig = true :=
  Bool.and_eq_true_iff

/-- An operation that writes nothing. -/
theorem keepsWf_of_unchanged {inj : U → Instance F64} {f : U → Performed U}
    (hf : ∀ u p, f u = .ok p → p.1 = u) : KeepsWf inj f := by
  intro u p h hp
  rwa [hf u p hp]

/-- A step on the addressed instance keeps the invariant where its operation keeps the instance well
formed. -/
theorem inv_of_onUnit {proj : Instance F64 → Option U} {inj : U → Instance F64} {s t : State}
    {f : U → Performed U} (hproj : ∀ v u, proj v = some u → v = inj u) (hk : KeepsWf inj f)
    (hs : s.Inv = true) (h : onUnit proj inj s f = .next t) : t.Inv = true := by
  rcases onUnit_cases proj inj s f with ⟨-, he⟩ | ⟨_, -, -, he⟩ | ⟨_, _, _, -, -, -, he⟩ |
    ⟨v, u, u', r, hv, hu, hf, he⟩
  all_goals cases he.symm.trans h
  · exact hs
  · exact hs
  · obtain ⟨hrising, hall⟩ := Bool.and_eq_true_iff.mp hs
    have hwf : (inj u).wf machineConfig = true := hproj v u hu ▸ all_lookup hall hv
    exact Bool.and_eq_true_iff.mpr
      ⟨rising_set _ (Nat.zero_le _) hrising, all_set (hk u (u', r) hwf hf) hall⟩

end Keeps

/-! ### OSC, GOERTZEL, FSKDET -/

theorem oscZeroed_wf {u : Osc F64} (h : (Instance.osc u).wf machineConfig = true) :
    (Instance.osc { u with phase := b64.zero }).wf machineConfig = true :=
  wf_iff.mpr ⟨(wf_iff.mp h).1, phaseInRange_zero⟩

theorem oscSample_wf {u : Osc F64} (h : (Instance.osc u).wf machineConfig = true) :
    (Instance.osc (oscSample machineConfig u).1).wf machineConfig = true :=
  wf_iff.mpr ⟨(wf_iff.mp h).1, phaseInRange_wrap _⟩

theorem oscRun_wf (n : Nat) {u : Osc F64} (h : (Instance.osc u).wf machineConfig = true) :
    (Instance.osc (oscRun machineConfig n u).1).wf machineConfig = true := by
  induction n generalizing u with
  | zero => exact h
  | succ n ih => exact ih (oscSample_wf h)

/-- R25: a sample counts up to the block and then from 0. -/
theorem goertzelFeed_n_lt {n : Nat} (c : F64) {g : GoertzelAcc F64} (x : F64) (h : g.n < n) :
    (goertzelFeed machineConfig n c g x).1.n < n := by
  by_cases hn : g.n + 1 = n
  · rw [goertzelFeed_of_complete machineConfig c x hn]
    exact Nat.zero_lt_of_lt h
  · rw [goertzelFeed_of_incomplete machineConfig c x hn]
    exact lt_of_le_of_ne h hn

/-- R133: the count after a sample depends on the count alone. -/
theorem goertzelFeed_n_eq {n : Nat} (c d : F64) {g g' : GoertzelAcc F64} (x : F64)
    (h : g.n = g'.n) :
    (goertzelFeed machineConfig n c g x).1.n = (goertzelFeed machineConfig n d g' x).1.n := by
  by_cases hn : g.n + 1 = n
  · rw [goertzelFeed_of_complete machineConfig c x hn,
      goertzelFeed_of_complete machineConfig d x (h ▸ hn)]
  · rw [goertzelFeed_of_incomplete machineConfig c x hn,
      goertzelFeed_of_incomplete machineConfig d x (h ▸ hn)]
    exact congrArg (· + 1) h

theorem Fskdet.inRange_iff (u : Fskdet F64) :
    u.inRange = true ↔ (u.m.n < u.par.n ∧ u.s.n < u.par.n) ∧ u.m.n = u.s.n := by
  simp only [Fskdet.inRange, GoertzelAcc.inRange, Bool.and_eq_true, decide_eq_true_eq]

/-- R26: emptying both correlators keeps the block size at least 1. -/
theorem fskdet_emptied_wf {u : Fskdet F64} (h : (Instance.fskdet u).wf machineConfig = true) :
    (Instance.fskdet
      { u with m := emptyAcc machineConfig, s := emptyAcc machineConfig }).wf machineConfig =
        true := by
  obtain ⟨hpar, hrange⟩ := wf_iff.mp h
  obtain ⟨⟨hm, -⟩, -⟩ := u.inRange_iff.mp hrange
  have hpos := Nat.zero_lt_of_lt hm
  exact wf_iff.mpr ⟨hpar, (Fskdet.inRange_iff _).mpr ⟨⟨hpos, hpos⟩, rfl⟩⟩

theorem goertzel_emptied_wf {u : Goertzel F64} (h : (Instance.goertzel u).wf machineConfig = true) :
    (Instance.goertzel { u with acc := emptyAcc machineConfig }).wf machineConfig = true := by
  obtain ⟨hpar, hrange⟩ := wf_iff.mp h
  exact wf_iff.mpr ⟨hpar, decide_eq_true (Nat.zero_lt_of_lt (of_decide_eq_true hrange))⟩

theorem keepsWf_goertzelProcess (x : F32) :
    KeepsWf .goertzel (goertzelProcess machineConfig x) := by
  intro u p h hp
  cases requireFinite_ok hp
  obtain ⟨hpar, hrange⟩ := wf_iff.mp h
  exact wf_iff.mpr ⟨hpar, decide_eq_true (goertzelFeed_n_lt _ _ (of_decide_eq_true hrange))⟩

theorem keepsWf_fskdetProcess (x : F32) : KeepsWf .fskdet (fskdetProcess machineConfig x) := by
  intro u p h hp
  cases requireFinite_ok hp
  obtain ⟨hpar, hrange⟩ := wf_iff.mp h
  obtain ⟨⟨hm, hs⟩, hsync⟩ := u.inRange_iff.mp hrange
  exact wf_iff.mpr ⟨hpar, (Fskdet.inRange_iff _).mpr
    ⟨⟨goertzelFeed_n_lt _ _ hm, goertzelFeed_n_lt _ _ hs⟩, goertzelFeed_n_eq _ _ _ hsync⟩⟩

theorem keepsWf_goertzelProcessBlock (xs : List F32) :
    KeepsWf .goertzel (goertzelProcessBlock machineConfig xs) := by
  intro u p h hp
  cases requireAllFinite_ok (requireLength_ok hp)
  exact goertzel_emptied_wf h

theorem keepsWf_fskdetProcessBlock (xs : List F32) :
    KeepsWf .fskdet (fskdetProcessBlock machineConfig xs) := by
  intro u p h hp
  cases requireAllFinite_ok (requireLength_ok hp)
  exact fskdet_emptied_wf h

theorem keepsWf_oscGenerateDuration (x : F32) :
    KeepsWf .osc (oscGenerateDuration machineConfig x) := by
  intro u p h hp
  cases requireShort_ok (requireFinite_ok hp)
  exact oscRun_wf _ h

theorem keepsWf_oscSetFrequency (x : F32) : KeepsWf .osc (oscSetFrequency machineConfig x) := by
  intro u p h hp
  cases requireFinite_ok hp
  exact h

theorem keepsWf_oscSetPhase (x : F32) : KeepsWf .osc (oscSetPhase machineConfig x) := by
  intro u p h hp
  cases requireFinite_ok hp
  exact wf_iff.mpr ⟨(wf_iff.mp h).1, phaseInRange_wrap _⟩

/-! ### The filters -/

section Filters

variable {F : Type} (C : Config F)

/-- The fold of a block keeps what every sample keeps. -/
theorem filterRun_keeps {M : Type} {P : M → Prop} {f : M → F → M × F}
    (hf : ∀ m x, P m → P (f m x).1) (xs : List F) {m : M} (h : P m) : P (filterRun C f xs m).1 := by
  induction xs generalizing m with
  | nil => exact h
  | cons x xs ih => exact ih (hf m x h)

@[simp] theorem cstep_length (k : BpfCoef F) (sec : List (BpfMem F)) (x : F) :
    (cstep C k sec x).1.length = sec.length := by
  induction sec generalizing x with
  | nil => rfl
  | cons b bs ih => exact congrArg (· + 1) (ih _)

end Filters

/-- A BPF instance has no register with a range: an operation keeps it by keeping its parameters. -/
theorem keepsWf_bpf {f : Bpf F64 → Performed (Bpf F64)}
    (hf : ∀ u p, f u = .ok p → p.1.par = u.par) : KeepsWf .bpf f := by
  intro u p h hp
  refine wf_iff.mpr ⟨?_, rfl⟩
  rw [Instance.params, hf u p hp]
  exact (wf_iff.mp h).1

/-- A CBPF instance is well formed where its parameters are and it has their number of sections. -/
theorem cbpf_wf {u : Cbpf F64} {sec : List (BpfMem F64)} (hlen : sec.length = u.sec.length)
    (h : (Instance.cbpf u).wf machineConfig = true) :
    (Instance.cbpf { u with sec := sec }).wf machineConfig = true := by
  obtain ⟨hpar, hrange⟩ := wf_iff.mp h
  exact wf_iff.mpr ⟨hpar, decide_eq_true (hlen.trans (of_decide_eq_true hrange))⟩

theorem keepsWf_cbpfReset : KeepsWf .cbpf (cbpfReset machineConfig) := by
  intro u p h hp
  cases hp
  exact cbpf_wf (List.length_map _) h

theorem keepsWf_cbpfProcess (x : F32) : KeepsWf .cbpf (cbpfProcess machineConfig x) := by
  intro u p h hp
  cases requireFinite_ok hp
  exact cbpf_wf (cstep_length machineConfig _ _ _) h

theorem keepsWf_cbpfProcessBlock (xs : List F32) :
    KeepsWf .cbpf (cbpfProcessBlock machineConfig xs) := by
  intro u p h hp
  cases requireAllFinite_ok hp
  exact cbpf_wf (filterRun_keeps machineConfig (P := fun sec => sec.length = u.sec.length)
    (fun m x hm => (cstep_length machineConfig _ m x).trans hm) _ rfl) h

/-! ### VARICODE -/

theorem varicodeDecodeRun_inRange {F : Type} (C : Config F) (bits : List Byte) {u : Varicode}
    (h : u.inRange C = true) : (varicodeDecodeRun C bits u).1.inRange C = true := by
  induction bits generalizing u with
  | nil => exact h
  | cons bit bits ih =>
    rw [varicodeDecodeRun_cons]
    exact ih (varicodeFeed_inRange C u _ h)

theorem keepsWf_varicodeEncodeString (text : List U32) :
    KeepsWf .varicode (varicodeEncodeString machineConfig text) := by
  intro u p h hp
  rw [varicodeEncodeString] at hp
  cases requireShort_ok hp
  exact h

theorem keepsWf_varicodeEncodeWithPreamble (text : List U32) (n : U32) :
    KeepsWf .varicode (varicodeEncodeWithPreamble machineConfig text n) := by
  intro u p h hp
  rw [varicodeEncodeWithPreamble] at hp
  cases requireShort_ok hp
  exact h

/-! ### FSKDEMOD -/

section Fsk

variable {u : FskDemod F64}

/-- The smaller of two values in their bounds is in its bounds. -/
theorem withinBounds_min {a b lo hi : F64} (ha : withinBounds machineConfig a lo hi = true)
    (hb : withinBounds machineConfig b lo hi = true) :
    withinBounds machineConfig (b64.min a b) lo hi = true := by
  change withinBounds machineConfig (F64.min a b) lo hi = true
  rw [F64.min]
  split
  · exact hb
  · exact ha

/-- R217: a confidence is in [0, 1] wherever it is a number. -/
theorem fskConfidence_bounds (c : F64) :
    withinBounds machineConfig (fskConfidence machineConfig c) b64.zero b64.one = true :=
  have ⟨h0, h1, h01⟩ := clampBounds.2.2
  withinBounds_clamp _ h0 h1 h01

/-- R214: the bit at `bitIndex` is above every bit the code has so far. -/
theorem fskCodeWithBit_lt {n : Nat} (hn : u.bitIndex = n) (h : u.code.toNat < 2 ^ n) :
    (fskCodeWithBit machineConfig u).toNat < 2 ^ (n + 1) := by
  have hcode : u.code.toNat < 2 ^ (n + 1) := h.trans (Nat.pow_lt_pow_right (by decide) n.lt_succ_self)
  have hbit : ((1 : BitVec 5) <<< n).toNat < 2 ^ (n + 1) := by
    rw [BitVec.toNat_shiftLeft, show (1 : BitVec 5).toNat = 1 from rfl, Nat.one_shiftLeft]
    exact (Nat.mod_le _ _).trans_lt (Nat.pow_lt_pow_right (by decide) n.lt_succ_self)
  rw [fskCodeWithBit, BitVec.toNat_or, hn]
  apply Nat.or_lt_two_pow hcode
  split
  · exact hbit
  · exact Nat.two_pow_pos _

/-- What the bit-timing automaton keeps: the frame registers as each state has them, and the confidence
within its clamp. -/
def FskDemod.FrameKept (u : FskDemod F64) : Prop :=
  u.frameInRange machineConfig = true ∧ withinBounds machineConfig u.minConf b64.zero b64.one = true

theorem fskEnterWaiting_frameKept (u : FskDemod F64) : (fskEnterWaiting machineConfig u).FrameKept :=
  ⟨(frameInRange_waiting_iff rfl).mpr ⟨rfl, rfl, rfl, rfl⟩, initClamped.2.2.1⟩

theorem fskWaitingForStart_frameKept (hphase : u.phase = .waitingForStart) (h : u.FrameKept) :
    (fskWaitingForStart machineConfig u).FrameKept := by
  obtain ⟨-, hbit, hcode, hconf⟩ := (frameInRange_waiting_iff hphase).mp h.1
  rw [fskWaitingForStart]
  split
  · exact ⟨(frameInRange_start_iff rfl).mpr ⟨.inl rfl, hbit, hcode, hconf⟩, h.2⟩
  · exact h

theorem fskInStartBit_frameKept (hphase : u.phase = .inStartBit) (h : u.FrameKept) :
    (fskInStartBit machineConfig u).FrameKept := by
  obtain ⟨-, hbit, hcode, hconf⟩ := (frameInRange_start_iff hphase).mp h.1
  unfold fskInStartBit
  dsimp only
  split
  case isTrue htick =>
    split
    · exact ⟨(frameInRange_start_iff (by exact hphase)).mpr ⟨.inr htick, hbit, hcode, hconf⟩, h.2⟩
    · exact fskEnterWaiting_frameKept u
  case isFalse =>
    exact ⟨(frameInRange_data_iff rfl).mpr ⟨Nat.zero_le 3, Nat.zero_le 4, Nat.one_pos⟩, initClamped.2.2.1⟩

theorem fskReceivingData_frameKept (hphase : u.phase = .receivingData) (h : u.FrameKept) :
    (fskReceivingData machineConfig u).FrameKept := by
  obtain ⟨htick, hbit, hcode⟩ := (frameInRange_data_iff hphase).mp h.1
  unfold fskReceivingData
  dsimp only
  split
  case isTrue h3 =>
    have h3 : u.tick + 1 = 3 := h3
    rw [if_neg (by omega)] at hcode
    refine ⟨(frameInRange_data_iff (by exact hphase)).mpr ⟨h3.le, hbit, ?_⟩,
      withinBounds_min h.2 (fskConfidence_bounds _)⟩
    dsimp only
    rw [if_pos h3]
    exact fskCodeWithBit_lt rfl hcode
  case isFalse h3 =>
    have h3 : ¬ u.tick + 1 = 3 := h3
    split
    case isTrue h4 =>
      have h4 : u.tick + 1 = 4 := h4
      rw [if_pos (by omega)] at hcode
      split
      case isTrue hlast => exact ⟨(frameInRange_stop_iff rfl).mpr ⟨Nat.zero_le 2, hlast⟩, h.2⟩
      case isFalse hlast =>
        exact ⟨(frameInRange_data_iff (by exact hphase)).mpr ⟨Nat.zero_le 3, by dsimp only; omega, hcode⟩, h.2⟩
    case isFalse h4 =>
      have h4 : ¬ u.tick + 1 = 4 := h4
      rw [if_neg (by omega)] at hcode
      refine ⟨(frameInRange_data_iff (by exact hphase)).mpr ⟨by dsimp only; omega, hbit, ?_⟩, h.2⟩
      dsimp only
      rwa [if_neg h3]

theorem fskInStopBits_frameKept (sq : F64) (hphase : u.phase = .inStopBits) (h : u.FrameKept) :
    (fskInStopBits machineConfig sq u).1.FrameKept := by
  obtain ⟨htick, hbit⟩ := (frameInRange_stop_iff hphase).mp h.1
  unfold fskInStopBits
  dsimp only
  split
  case isTrue => exact fskEnterWaiting_frameKept _
  case isFalse h3 =>
    have h3 : ¬ u.tick + 1 = 3 := h3
    exact ⟨(frameInRange_stop_iff (by exact hphase)).mpr ⟨by dsimp only; omega, hbit⟩, h.2⟩

theorem fskMachine_frameKept (sq : F64) (h : u.FrameKept) :
    (fskMachine machineConfig sq u).1.FrameKept := by
  unfold fskMachine
  cases hphase : u.phase with
  | waitingForStart => exact fskWaitingForStart_frameKept hphase h
  | inStartBit => exact fskInStartBit_frameKept hphase h
  | receivingData => exact fskReceivingData_frameKept hphase h
  | inStopBits => exact fskInStopBits_frameKept sq hphase h

theorem fskMachine_ranges (sq : F64) (h : u.Ranges) : (fskMachine machineConfig sq u).1.Ranges := by
  obtain ⟨hframe, hconf⟩ := fskMachine_frameKept sq ⟨h.frame, h.minConf⟩
  rw [fskMachine_eq] at hframe hconf ⊢
  exact { h with frame := hframe, minConf := hconf }

/-- R204: the ring keeps its length and its index stays inside it; R203: the gain is clamped. -/
theorem fskFrontEnd_ranges (x : F64) (h : u.Ranges) : (fskFrontEnd machineConfig u x).Ranges :=
  have ⟨hlo, hhi, hle⟩ := clampBounds.1
  { h with
    sections := (cstep_length machineConfig _ _ _).trans h.sections
    gain := withinBounds_clamp _ hlo hhi hle
    ring := List.length_set.trans h.ring
    wpos := Nat.mod_lt _ (Nat.zero_lt_of_lt h.wpos) }

/-- R207, R208: the history keeps its length, the noise floor is clamped. -/
theorem fskMeasure_ranges (h : u.Ranges) : (fskMeasure machineConfig u).Ranges :=
  have ⟨hlo, hhi, hle⟩ := clampBounds.2.1
  have hhist := h.hist
  { h with
    hist := by
      rw [fskMeasure, fskNoiseFloor, fskStrength, fskCorrelate]
      simp only [List.length_append, List.length_drop, List.length_singleton, hhist]
      rfl
    noiseFloor := withinBounds_clamp _ hlo hhi hle }

theorem fskDetect_ranges (sq : F64) (h : u.Ranges) : (fskDetect machineConfig sq u).1.Ranges :=
  { h with }

theorem fskAfcScan_ranges (h : u.Ranges) : (fskAfcScan machineConfig u).Ranges := by
  rw [fskAfcScan_eq]
  refine { h with afcCount := ?_ }
  dsimp only
  split
  · exact Nat.zero_lt_succ 7
  · next hn => exact lt_of_le_of_ne h.afcCount hn

theorem fskRetune_ranges (h : u.Ranges) : (fskRetune machineConfig u).Ranges := by
  unfold fskRetune
  dsimp only
  split
  · split
    · exact { h with sections := List.length_replicate }
    · exact { h with }
  · exact h

theorem fskStep_ranges (h : u.Ranges) : (fskStep machineConfig u).1.Ranges :=
  fskMachine_ranges _ (fskRetune_ranges (fskAfcScan_ranges (fskDetect_ranges _ (fskMeasure_ranges h))))

theorem fskSample_ranges (x : F64) (h : u.Ranges) : (fskSample machineConfig u x).1.Ranges := by
  have hfront := fskFrontEnd_ranges x h
  unfold fskSample
  dsimp only
  split
  · exact fskStep_ranges { hfront with sampleCount := Nat.zero_lt_of_lt hfront.sampleCount }
  · next hn => exact { hfront with sampleCount := lt_of_le_of_ne hfront.sampleCount hn }

/-- R23: the parts of a sample write no parameter. -/
theorem fskSample_par {F : Type} (C : Config F) (u : FskDemod F) (x : F) :
    (fskSample C u x).1.par = u.par := by
  unfold fskSample
  dsimp only
  split
  · unfold fskStep
    dsimp only
    rw [fskMachine_eq, (fskRetune_eq C _).1, fskAfcScan_eq]
    rfl
  · rfl

theorem fskdemod_wf_iff :
    (Instance.fskdemod u).wf machineConfig = true ↔ u.par.valid machineConfig = true ∧ u.Ranges :=
  wf_iff.trans (and_congr_right' u.inRange_iff)

theorem fskSample_wf (x : F64) (h : (Instance.fskdemod u).wf machineConfig = true) :
    (Instance.fskdemod (fskSample machineConfig u x).1).wf machineConfig = true := by
  obtain ⟨hpar, hrange⟩ := fskdemod_wf_iff.mp h
  exact fskdemod_wf_iff.mpr ⟨(fskSample_par machineConfig u x).symm ▸ hpar, fskSample_ranges x hrange⟩

theorem fskRun_wf (xs : List F64) (h : (Instance.fskdemod u).wf machineConfig = true) :
    (Instance.fskdemod (fskRun machineConfig xs u).1).wf machineConfig = true := by
  induction xs generalizing u with
  | nil => exact h
  | cons x xs ih => exact ih (fskSample_wf x h)

/-- R219, R220: the cleared registers are those of a fresh instance at the tuned mark. -/
theorem fskCleared_wf {f : F64} (h : (Instance.fskdemod u).wf machineConfig = true)
    (hmark : u.par.validMark machineConfig f = true) :
    (Instance.fskdemod (fskCleared machineConfig { u with markTuned := f })).wf machineConfig =
      true := by
  obtain ⟨hpar, hrange⟩ := fskdemod_wf_iff.mp h
  obtain ⟨-, -, -, -, -, -, -, hspb, -, -, -⟩ := (u.par.valid_iff machineConfig).mp hpar
  rw [fskCleared_eq_init machineConfig (u := { u with markTuned := f }) hrange.ring hrange.hist]
  exact fskdemod_wf_iff.mpr ⟨hpar, initFsk_ranges hspb hmark⟩

theorem keepsWf_fskdemodReset : KeepsWf .fskdemod (fskdemodReset machineConfig) := by
  intro u p h hp
  cases hp
  exact fskCleared_wf h (fskdemod_wf_iff.mp h).2.mark

theorem keepsWf_fskdemodTune (f : F32) : KeepsWf .fskdemod (fskdemodTune machineConfig f) := by
  intro u p h hp
  have hp := requireFinite_ok hp
  dsimp only at hp
  split at hp
  case isTrue hvalid => cases hp; exact fskCleared_wf h hvalid
  case isFalse => cases hp

theorem keepsWf_fskdemodSetSquelch (x : F32) :
    KeepsWf .fskdemod (fskdemodSetSquelch machineConfig x) := by
  intro u p h hp
  cases requireFinite_ok hp
  exact fskdemod_wf_iff.mpr ⟨(fskdemod_wf_iff.mp h).1, { (fskdemod_wf_iff.mp h).2 with }⟩

theorem keepsWf_fskdemodSetReverse (flag : Byte) : KeepsWf .fskdemod (fskdemodSetReverse flag) := by
  intro u p h hp
  cases hp
  exact fskdemod_wf_iff.mpr ⟨(fskdemod_wf_iff.mp h).1, { (fskdemod_wf_iff.mp h).2 with }⟩

end Fsk

/-! ### PSKDEMOD -/

section Psk

variable {u : PskDemod F64}

theorem pskdemod_wf_iff :
    (Instance.pskdemod u).wf machineConfig = true ↔ u.par.valid machineConfig = true ∧ u.Ranges :=
  wf_iff.trans (and_congr_right' u.inRange_iff)

/-- R258, R259, R261: at the symbol boundary the strength is clamped, the decoder is fed, the count is
cleared. -/
theorem pskSymbol_ranges {n : Nat} (h : u.Ranges) :
    (pskSymbol machineConfig { u with n := n }).1.Ranges := by
  have ⟨h0, h1, h01⟩ := clampBounds.2.2
  unfold pskSymbol
  dsimp only
  rw [pskDeliver_run]
  exact
    { center := h.center
      loPhase := h.loPhase
      n := Nat.zero_lt_of_lt h.n
      strength := withinBounds_clamp _ h0 h1 h01
      dec := varicodeDecodeRun_inRange machineConfig _ h.dec }

/-- R252 to R254: the part of a sample before it is counted. -/
theorem pskGates_ranges (x : F64) (h : u.Ranges) :
    (pskGates machineConfig
      (pskLowPass machineConfig (pskMix machineConfig u x).1 (pskMix machineConfig u x).2)).Ranges := by
  rw [pskGates_eq]
  exact { h with loPhase := phaseInRange_wrap _ }

theorem pskSample_ranges (x : F64) (h : u.Ranges) : (pskSample machineConfig u x).1.Ranges := by
  have hgates := pskGates_ranges x h
  unfold pskSample
  dsimp only
  split
  · exact pskSymbol_ranges hgates
  · next hn => exact { hgates with n := lt_of_le_of_ne hgates.n hn }

/-- R23: the parts of a sample write no parameter. -/
theorem pskSample_par {F : Type} (C : Config F) (u : PskDemod F) (x : F) :
    (pskSample C u x).1.par = u.par := by
  unfold pskSample
  dsimp only
  rw [pskGates_eq]
  split
  · unfold pskSymbol
    dsimp only
    rw [pskDeliver_run]
    rfl
  · rfl

theorem pskSample_wf (x : F64) (h : (Instance.pskdemod u).wf machineConfig = true) :
    (Instance.pskdemod (pskSample machineConfig u x).1).wf machineConfig = true := by
  obtain ⟨hpar, hrange⟩ := pskdemod_wf_iff.mp h
  exact pskdemod_wf_iff.mpr ⟨(pskSample_par machineConfig u x).symm ▸ hpar, pskSample_ranges x hrange⟩

theorem pskRun_wf (xs : List F64) (h : (Instance.pskdemod u).wf machineConfig = true) :
    (Instance.pskdemod (pskRun machineConfig xs u).1).wf machineConfig = true := by
  induction xs generalizing u with
  | nil => exact h
  | cons x xs ih => exact ih (pskSample_wf x h)

/-- R263, R264. -/
theorem pskCleared_wf {f : F64} (h : (Instance.pskdemod u).wf machineConfig = true)
    (hcenter : u.par.validCenter machineConfig f = true) :
    (Instance.pskdemod (pskCleared machineConfig { u with centerTuned := f })).wf machineConfig =
      true := by
  obtain ⟨hpar, -⟩ := pskdemod_wf_iff.mp h
  obtain ⟨-, -, -, -, -, hlen, -⟩ := (u.par.valid_iff machineConfig).mp hpar
  rw [pskCleared_eq_init]
  exact pskdemod_wf_iff.mpr ⟨hpar, initPsk_ranges hlen hcenter⟩

theorem keepsWf_pskdemodReset : KeepsWf .pskdemod (pskdemodReset machineConfig) := by
  intro u p h hp
  cases hp
  exact pskCleared_wf h (pskdemod_wf_iff.mp h).2.center

theorem keepsWf_pskdemodTune (f : F32) : KeepsWf .pskdemod (pskdemodTune machineConfig f) := by
  intro u p h hp
  have hp := requireFinite_ok hp
  dsimp only at hp
  split at hp
  case isTrue hvalid => cases hp; exact pskCleared_wf h hvalid
  case isFalse => cases hp

theorem keepsWf_pskdemodSetSquelch (x : F32) :
    KeepsWf .pskdemod (pskdemodSetSquelch machineConfig x) := by
  intro u p h hp
  cases requireFinite_ok hp
  exact pskdemod_wf_iff.mpr ⟨(pskdemod_wf_iff.mp h).1, { (pskdemod_wf_iff.mp h).2 with }⟩

end Psk

/-! ### Every operation -/

section Exec

variable {s t : State}

theorem inv_onOsc {f : Osc F64 → Performed (Osc F64)} (hk : KeepsWf .osc f) (hs : s.Inv = true)
    (h : onOsc s f = .next t) : t.Inv = true :=
  inv_of_onUnit (fun v u hu => by cases v <;> cases hu; rfl) hk hs h

theorem inv_onGoertzel {f : Goertzel F64 → Performed (Goertzel F64)} (hk : KeepsWf .goertzel f) (hs : s.Inv = true)
    (h : onGoertzel s f = .next t) : t.Inv = true :=
  inv_of_onUnit (fun v u hu => by cases v <;> cases hu; rfl) hk hs h

theorem inv_onFskdet {f : Fskdet F64 → Performed (Fskdet F64)} (hk : KeepsWf .fskdet f) (hs : s.Inv = true)
    (h : onFskdet s f = .next t) : t.Inv = true :=
  inv_of_onUnit (fun v u hu => by cases v <;> cases hu; rfl) hk hs h

theorem inv_onBpf {f : Bpf F64 → Performed (Bpf F64)} (hk : KeepsWf .bpf f) (hs : s.Inv = true)
    (h : onBpf s f = .next t) : t.Inv = true :=
  inv_of_onUnit (fun v u hu => by cases v <;> cases hu; rfl) hk hs h

theorem inv_onCbpf {f : Cbpf F64 → Performed (Cbpf F64)} (hk : KeepsWf .cbpf f) (hs : s.Inv = true)
    (h : onCbpf s f = .next t) : t.Inv = true :=
  inv_of_onUnit (fun v u hu => by cases v <;> cases hu; rfl) hk hs h

theorem inv_onBaudot {f : Baudot → Performed Baudot} (hk : KeepsWf .baudot f) (hs : s.Inv = true)
    (h : onBaudot s f = .next t) : t.Inv = true :=
  inv_of_onUnit (fun v u hu => by cases v <;> cases hu; rfl) hk hs h

theorem inv_onVaricode {f : Varicode → Performed Varicode} (hk : KeepsWf .varicode f) (hs : s.Inv = true)
    (h : onVaricode s f = .next t) : t.Inv = true :=
  inv_of_onUnit (fun v u hu => by cases v <;> cases hu; rfl) hk hs h

theorem inv_onFskDemod {f : FskDemod F64 → Performed (FskDemod F64)} (hk : KeepsWf .fskdemod f) (hs : s.Inv = true)
    (h : onFskDemod s f = .next t) : t.Inv = true :=
  inv_of_onUnit (fun v u hu => by cases v <;> cases hu; rfl) hk hs h

theorem inv_onPskDemod {f : PskDemod F64 → Performed (PskDemod F64)} (hk : KeepsWf .pskdemod f) (hs : s.Inv = true)
    (h : onPskDemod s f = .next t) : t.Inv = true :=
  inv_of_onUnit (fun v u hu => by cases v <;> cases hu; rfl) hk hs h

/-- Every operation keeps the invariant: the arms of `exec`, unit by unit. -/
theorem exec_inv (i : Instr) (hs : s.Inv = true) (h : exec i s = .next t) : t.Inv = true := by
  cases i with
  | oscReset =>
    exact inv_onOsc (fun u p hu hp => by cases hp; exact oscZeroed_wf hu) hs h
  | oscNextSample => exact inv_onOsc (fun u p hu hp => by cases hp; exact oscSample_wf hu) hs h
  | oscGenerateCount n => exact inv_onOsc (fun u p hu hp => by cases hp; exact oscRun_wf _ hu) hs h
  | oscGenerateDuration x => exact inv_onOsc (keepsWf_oscGenerateDuration x) hs h
  | oscSetFrequency x => exact inv_onOsc (keepsWf_oscSetFrequency x) hs h
  | oscSetPhase x => exact inv_onOsc (keepsWf_oscSetPhase x) hs h
  | goertzelReset =>
    exact inv_onGoertzel (fun u p hu hp => by cases hp; exact goertzel_emptied_wf hu) hs h
  | goertzelProcess x => exact inv_onGoertzel (keepsWf_goertzelProcess x) hs h
  | goertzelProcessBlock xs => exact inv_onGoertzel (keepsWf_goertzelProcessBlock xs) hs h
  | fskdetReset => exact inv_onFskdet (fun u p hu hp => by cases hp; exact fskdet_emptied_wf hu) hs h
  | fskdetProcess x => exact inv_onFskdet (keepsWf_fskdetProcess x) hs h
  | fskdetProcessBlock xs => exact inv_onFskdet (keepsWf_fskdetProcessBlock xs) hs h
  | bpfReset => exact inv_onBpf (keepsWf_bpf fun u p hp => by cases hp; rfl) hs h
  | bpfProcess x | bpfMag x | bpfMagDb x =>
    exact inv_onBpf (keepsWf_bpf fun u p hp => by cases requireFinite_ok hp; rfl) hs h
  | bpfProcessBlock xs =>
    exact inv_onBpf (keepsWf_bpf fun u p hp => by cases requireAllFinite_ok hp; rfl) hs h
  | cbpfReset => exact inv_onCbpf keepsWf_cbpfReset hs h
  | cbpfProcess x => exact inv_onCbpf (keepsWf_cbpfProcess x) hs h
  | cbpfProcessBlock xs => exact inv_onCbpf (keepsWf_cbpfProcessBlock xs) hs h
  | cbpfMag x | cbpfMagDb x =>
    exact inv_onCbpf (keepsWf_of_unchanged fun u p hp => by cases requireFinite_ok hp; rfl) hs h
  | baudotReset | baudotDecode _ | baudotDecodeCodes _ | baudotEncodeChar _ | baudotEncodeString _
  | baudotEncodeWithPreamble _ _ => exact inv_onBaudot (fun _ _ _ _ => rfl) hs h
  | varicodeReset => exact inv_onVaricode (fun u p hu hp => by cases hp; rfl) hs h
  | varicodeDecodeBit bit =>
    exact inv_onVaricode (fun u p hu hp => by cases hp; exact varicodeFeed_inRange _ u _ hu) hs h
  | varicodeDecodeBits bits =>
    exact inv_onVaricode (fun u p hu hp => by cases hp; exact varicodeDecodeRun_inRange _ bits hu) hs h
  | varicodeEncodeString text => exact inv_onVaricode (keepsWf_varicodeEncodeString text) hs h
  | varicodeEncodeWithPreamble text n =>
    exact inv_onVaricode (keepsWf_varicodeEncodeWithPreamble text n) hs h
  | varicodeEncodeChar scalar | varicodeBitLength scalar =>
    exact inv_onVaricode (keepsWf_of_unchanged fun u p hp => by cases hp; rfl) hs h
  | fskdemodReset => exact inv_onFskDemod keepsWf_fskdemodReset hs h
  | fskdemodProcessSample x =>
    exact inv_onFskDemod (fun u p hu hp => by cases requireFinite_ok hp; exact fskSample_wf _ hu) hs h
  | fskdemodProcessBlock xs =>
    exact inv_onFskDemod (fun u p hu hp => by cases requireAllFinite_ok hp; exact fskRun_wf _ hu) hs h
  | fskdemodTune f => exact inv_onFskDemod (keepsWf_fskdemodTune f) hs h
  | fskdemodSetSquelch x =>
    exact inv_onFskDemod (keepsWf_fskdemodSetSquelch x) hs h
  | fskdemodSetReverse flag => exact inv_onFskDemod (keepsWf_fskdemodSetReverse flag) hs h
  | fskdemodGetStrength | fskdemodGetDetected =>
    exact inv_onFskDemod (keepsWf_of_unchanged fun u p hp => by cases hp; rfl) hs h
  | pskdemodReset => exact inv_onPskDemod keepsWf_pskdemodReset hs h
  | pskdemodProcessSample x =>
    exact inv_onPskDemod (fun u p hu hp => by cases requireFinite_ok hp; exact pskSample_wf _ hu) hs h
  | pskdemodProcessBlock xs =>
    exact inv_onPskDemod (fun u p hu hp => by cases requireAllFinite_ok hp; exact pskRun_wf _ hu) hs h
  | pskdemodTune f => exact inv_onPskDemod (keepsWf_pskdemodTune f) hs h
  | pskdemodSetSquelch x => exact inv_onPskDemod (keepsWf_pskdemodSetSquelch x) hs h
  | pskdemodGetStrength | pskdemodGetDetected | pskdemodGetTimingError =>
    exact inv_onPskDemod (keepsWf_of_unchanged fun u p hp => by cases hp; rfl) hs h

end Exec

/-- Settles O35: a step performs an operation, refuses it, or is an action of the surrounding system,
which makes well-formed instances only. -/
theorem invKept : Obligations.InvKept := by
  intro s t hs h
  obtain ⟨hrising, hall⟩ := Bool.and_eq_true_iff.mp hs
  match hin : s.input with
  | [] =>
    rw [step_idle hin] at h
    cases h
    exact hs
  | .discard id :: rest =>
    rw [step_discard hin] at h
    cases h
    exact Bool.and_eq_true_iff.mpr ⟨rising_erase hrising, all_erase hall⟩
  | .instantiate id p :: rest =>
    rw [step_instantiate hin] at h
    cases h
    by_cases hp : p.valid machineConfig = true
    · rw [instantiate_of_valid hp]
      exact Bool.and_eq_true_iff.mpr
        ⟨rising_set _ (Nat.zero_le _) hrising, all_set (fresh_wf hp) hall⟩
    · rw [instantiate_of_not_valid hp]
      exact hs
  | .command id bytes :: rest =>
    cases hv : lookupInstance id s.instances with
    | none => cases (step_command_missing hin hv).symm.trans h
    | some v =>
      cases hf : fetch v.kind bytes with
      | refused reason =>
        cases (step_command_refused hin hv hf).symm.trans h
        exact hs
      | ok i left =>
        rw [step_command_ok hin hv hf] at h
        exact exec_inv i (by exact hs) h

end Sys2Proof.Machine

/-! PROOFS. BPF and CBPF (spec/42_bandpass.md): the operations of R142 to R153 as functions of the unit where
their operands are accepted, then as commands of the machine; the cascade section by section (R148). -/

namespace Sys2Proof.Machine

/-! ### The operations of the units, over every numerics -/

section FilterUnits

variable {F : Type} (C : Config F) {x : F32} {xs : List F32}

theorem bpfProcess_of_finite (u : Bpf F) (hfin : x.isFinite = true) :
    bpfProcess C x u =
      .ok ({ u with mem := (bstep C (u.par.coef C) u.mem (C.num.ofF32 x)).1 },
        .f32 (C.num.toF32 (bstep C (u.par.coef C) u.mem (C.num.ofF32 x)).2)) :=
  requireFinite_of hfin

theorem bpfProcessBlock_of_finite (u : Bpf F) (hfin : ∀ x ∈ xs, x.isFinite = true) :
    bpfProcessBlock C xs u =
      .ok ({ u with mem := (filterRun C (bstep C (u.par.coef C)) (xs.map C.num.ofF32) u.mem).1 },
        .listF32 (filterRun C (bstep C (u.par.coef C)) (xs.map C.num.ofF32) u.mem).2) :=
  requireAllFinite_of hfin

theorem bpfMag_of_finite (u : Bpf F) (hfin : x.isFinite = true) :
    bpfMag C x u =
      .ok (u, .f32 (C.num.toF32 (bpfMagnitude C u.par.fs (u.par.coef C) (C.num.ofF32 x)))) :=
  requireFinite_of hfin

theorem bpfMagDb_of_finite (u : Bpf F) (hfin : x.isFinite = true) :
    bpfMagDb C x u =
      .ok (u, .f32 (C.num.toF32
        (decibels C (bpfMagnitude C u.par.fs (u.par.coef C) (C.num.ofF32 x))))) :=
  requireFinite_of hfin

theorem cbpfProcess_of_finite (u : Cbpf F) (hfin : x.isFinite = true) :
    cbpfProcess C x u =
      .ok ({ u with sec := (cstep C (u.par.band.coef C) u.sec (C.num.ofF32 x)).1 },
        .f32 (C.num.toF32 (cstep C (u.par.band.coef C) u.sec (C.num.ofF32 x)).2)) :=
  requireFinite_of hfin

theorem cbpfProcessBlock_of_finite (u : Cbpf F) (hfin : ∀ x ∈ xs, x.isFinite = true) :
    cbpfProcessBlock C xs u =
      .ok
        ({ u with
            sec := (filterRun C (cstep C (u.par.band.coef C)) (xs.map C.num.ofF32) u.sec).1 },
          .listF32 (filterRun C (cstep C (u.par.band.coef C)) (xs.map C.num.ofF32) u.sec).2) :=
  requireAllFinite_of hfin

theorem cbpfMag_of_finite (u : Cbpf F) (hfin : x.isFinite = true) :
    cbpfMag C x u = .ok (u, .f32 (C.num.toF32 (u.magnitude C (C.num.ofF32 x)))) :=
  requireFinite_of hfin

theorem cbpfMagDb_of_finite (u : Cbpf F) (hfin : x.isFinite = true) :
    cbpfMagDb C x u = .ok (u, .f32 (C.num.toF32 (decibels C (u.magnitude C (C.num.ofF32 x))))) :=
  requireFinite_of hfin

/-- R152: the product counts the sections, whatever list of them it runs over. -/
theorem cascadeMagnitude_eq_range (fs : F) (k : BpfCoef F) (n : Nat) (hz : F) :
    cascadeMagnitude C fs k n hz =
      (List.range n).foldl (fun m _ => C.num.mul m (bpfMagnitude C fs k hz)) C.num.one := by
  rw [cascadeMagnitude, List.foldl_const, List.foldl_const, List.length_replicate,
    List.length_range]

end FilterUnits

/-! ### The commands: each is its unit's operation, and completes where that does -/

section FilterCommands

variable {s : State}

theorem completesWith_onBpf {i : Instr} {f : Bpf F64 → Performed (Bpf F64)} {u u' : Bpf F64}
    {r : Result} (hexec : exec i s = onBpf s f) (hs : s.unit? = some (.bpf u))
    (hf : f u = .ok (u', r)) : CompletesWith i s (.bpf u') r :=
  completesWith_onUnit hexec hs rfl hf

theorem completesWith_onCbpf {i : Instr} {f : Cbpf F64 → Performed (Cbpf F64)} {u u' : Cbpf F64}
    {r : Result} (hexec : exec i s = onCbpf s f) (hs : s.unit? = some (.cbpf u))
    (hf : f u = .ok (u', r)) : CompletesWith i s (.cbpf u') r :=
  completesWith_onUnit hexec hs rfl hf

theorem exec_bpfReset (s : State) : exec .bpfReset s = onBpf s (bpfReset machineConfig) := rfl

theorem exec_bpfProcess (x : F32) (s : State) :
    exec (.bpfProcess x) s = onBpf s (bpfProcess machineConfig x) := rfl

theorem exec_bpfProcessBlock (xs : List F32) (s : State) :
    exec (.bpfProcessBlock xs) s = onBpf s (bpfProcessBlock machineConfig xs) := rfl

theorem exec_bpfMag (hz : F32) (s : State) :
    exec (.bpfMag hz) s = onBpf s (bpfMag machineConfig hz) := rfl

theorem exec_bpfMagDb (hz : F32) (s : State) :
    exec (.bpfMagDb hz) s = onBpf s (bpfMagDb machineConfig hz) := rfl

theorem exec_cbpfReset (s : State) : exec .cbpfReset s = onCbpf s (cbpfReset machineConfig) := rfl

theorem exec_cbpfProcess (x : F32) (s : State) :
    exec (.cbpfProcess x) s = onCbpf s (cbpfProcess machineConfig x) := rfl

theorem exec_cbpfProcessBlock (xs : List F32) (s : State) :
    exec (.cbpfProcessBlock xs) s = onCbpf s (cbpfProcessBlock machineConfig xs) := rfl

theorem exec_cbpfMag (hz : F32) (s : State) :
    exec (.cbpfMag hz) s = onCbpf s (cbpfMag machineConfig hz) := rfl

theorem exec_cbpfMagDb (hz : F32) (s : State) :
    exec (.cbpfMagDb hz) s = onCbpf s (cbpfMagDb machineConfig hz) := rfl

/-- R142: the four memories alone are written. -/
theorem completesWith_bpfReset {u : Bpf F64} (hs : s.unit? = some (.bpf u)) :
    CompletesWith .bpfReset s (.bpf { u with mem := clearMem machineConfig }) .none :=
  completesWith_onBpf (exec_bpfReset s) hs rfl

/-- R143. -/
theorem completesWith_bpfProcess {u : Bpf F64} (hs : s.unit? = some (.bpf u)) {x : F32}
    (hfin : x.isFinite = true) :
    CompletesWith (.bpfProcess x) s
      (.bpf
        { u with
          mem := (bstep machineConfig (u.par.coef machineConfig) u.mem (b64.ofF32 x)).1 })
      (.f32 (b64.toF32
        (bstep machineConfig (u.par.coef machineConfig) u.mem (b64.ofF32 x)).2)) :=
  completesWith_onBpf (exec_bpfProcess x s) hs (bpfProcess_of_finite machineConfig u hfin)

/-- R144. -/
theorem completesWith_bpfProcessBlock {u : Bpf F64} (hs : s.unit? = some (.bpf u)) {xs : List F32}
    (hfin : ∀ x ∈ xs, x.isFinite = true) :
    CompletesWith (.bpfProcessBlock xs) s
      (.bpf
        { u with
          mem := (filterRun machineConfig (bstep machineConfig (u.par.coef machineConfig))
            (xs.map b64.ofF32) u.mem).1 })
      (.listF32 (filterRun machineConfig (bstep machineConfig (u.par.coef machineConfig))
        (xs.map b64.ofF32) u.mem).2) :=
  completesWith_onBpf (exec_bpfProcessBlock xs s) hs (bpfProcessBlock_of_finite machineConfig u hfin)

/-- R150. -/
theorem completesWith_cbpfProcess {u : Cbpf F64} (hs : s.unit? = some (.cbpf u)) {x : F32}
    (hfin : x.isFinite = true) :
    CompletesWith (.cbpfProcess x) s
      (.cbpf
        { u with
          sec := (cstep machineConfig (u.par.band.coef machineConfig) u.sec (b64.ofF32 x)).1 })
      (.f32 (b64.toF32
        (cstep machineConfig (u.par.band.coef machineConfig) u.sec (b64.ofF32 x)).2)) :=
  completesWith_onCbpf (exec_cbpfProcess x s) hs (cbpfProcess_of_finite machineConfig u hfin)

/-- R151. -/
theorem completesWith_cbpfProcessBlock {u : Cbpf F64} (hs : s.unit? = some (.cbpf u))
    {xs : List F32} (hfin : ∀ x ∈ xs, x.isFinite = true) :
    CompletesWith (.cbpfProcessBlock xs) s
      (.cbpf
        { u with
          sec := (filterRun machineConfig (cstep machineConfig (u.par.band.coef machineConfig))
            (xs.map b64.ofF32) u.sec).1 })
      (.listF32 (filterRun machineConfig (cstep machineConfig (u.par.band.coef machineConfig))
        (xs.map b64.ofF32) u.sec).2) :=
  completesWith_onCbpf (exec_cbpfProcessBlock xs s) hs
    (cbpfProcessBlock_of_finite machineConfig u hfin)

end FilterCommands

/-- Settles O16: each operation of BPF completes as R142 to R146 say; the coefficients and the response
written out are `bpfCoef` and `bpfMagnitude` over binary64. -/
theorem bpfOperations : Obligations.BpfOperations := by
  intro s u hs N C f0 q w0 al a0 k modulus response decibels
  have hcoef : u.par.coef machineConfig = k := rfl
  have hresponse (hz : F32) :
      bpfMagnitude machineConfig u.par.fs (u.par.coef machineConfig) (b64.ofF32 hz) = response hz :=
    rfl
  have hdecibels : Machine.decibels machineConfig = decibels := rfl
  refine ⟨completesWith_bpfReset hs, fun x hfin => ?process, fun xs hfin => ?block,
    fun hz hfin => ⟨?mag, ?magDb⟩⟩
  case process => exact completesWith_bpfProcess hs hfin
  case block => exact completesWith_bpfProcessBlock hs hfin
  case mag =>
    rw [← hresponse]
    exact completesWith_onBpf (exec_bpfMag hz s) hs (bpfMag_of_finite machineConfig u hfin)
  case magDb =>
    rw [← hresponse, ← hdecibels]
    exact completesWith_onBpf (exec_bpfMagDb hz s) hs (bpfMagDb_of_finite machineConfig u hfin)

/-- Settles O17: each operation of CBPF completes as R149 to R153 say. -/
theorem cbpfOperations : Obligations.CbpfOperations := by
  intro s u hs N C band f0 q w0 al a0 k modulus response decibels mag
  have hdecibels : Machine.decibels machineConfig = decibels := rfl
  have hmag (hz : F32) : u.magnitude machineConfig (b64.ofF32 hz) = mag hz :=
    cascadeMagnitude_eq_range machineConfig _ _ _ _
  refine ⟨?reset, fun x hfin => ?process, fun xs hfin => ?block, fun hz hfin => ⟨?mag, ?magDb⟩⟩
  case reset => exact completesWith_onCbpf (exec_cbpfReset s) hs rfl
  case process => exact completesWith_cbpfProcess hs hfin
  case block => exact completesWith_cbpfProcessBlock hs hfin
  case mag =>
    rw [← hmag]
    exact completesWith_onCbpf (exec_cbpfMag hz s) hs (cbpfMag_of_finite machineConfig u hfin)
  case magDb =>
    rw [← hmag, ← hdecibels]
    exact completesWith_onCbpf (exec_cbpfMagDb hz s) hs (cbpfMagDb_of_finite machineConfig u hfin)

/-! ### The cascade (R148, R151) -/

section Cascade

variable {F : Type} (C : Config F) (k : BpfCoef F)

/-- R141: the difference equation. -/
theorem bstep_eq (b : BpfMem F) (x : F) :
    bstep C k b x =
      (⟨x, b.x1, (bstep C k b x).2, b.y1⟩,
        C.num.sub
          (C.num.sub
            (C.num.add (C.num.add (C.num.mul k.b0 x) (C.num.mul k.b1 b.x1)) (C.num.mul k.b2 b.x2))
            (C.num.mul k.a1 b.y1))
          (C.num.mul k.a2 b.y2)) := rfl

theorem cstep_nil (x : F) : cstep C k [] x = ([], x) := rfl

/-- R148: the first section, and its output through the others. -/
theorem cstep_cons (b : BpfMem F) (bs : List (BpfMem F)) (x : F) :
    cstep C k (b :: bs) x =
      ((bstep C k b x).1 :: (cstep C k bs (bstep C k b x).2).1,
        (cstep C k bs (bstep C k b x).2).2) := rfl

/-- R151: no sections round the list at the interface. -/
theorem filterRun_cstep_nil (xs : List F) :
    filterRun C (cstep C k) xs [] = ([], xs.map C.num.toF32) := by
  induction xs with
  | nil => rfl
  | cons x xs ih => rw [filterRun, cstep_nil, ih, List.map_cons]

/-- R151: the list through the first section, and what it gives through the others. -/
theorem filterRun_cstep_cons (xs : List F) (b : BpfMem F) (bs : List (BpfMem F)) :
    filterRun C (cstep C k) xs (b :: bs) =
      ((sectionRun C k xs b).1 :: (filterRun C (cstep C k) (sectionRun C k xs b).2 bs).1,
        (filterRun C (cstep C k) (sectionRun C k xs b).2 bs).2) := by
  induction xs generalizing b bs with
  | nil => rfl
  | cons x xs ih => simp only [filterRun, cstep_cons, sectionRun, ih]

end Cascade

/-- Settles O39. -/
theorem cascadeSectionBySection : Obligations.CascadeSectionBySection := by
  intro F C k b bs xs N
  exact ⟨fun x => ⟨bstep_eq C k b x, cstep_nil C k x, cstep_cons C k b bs x⟩,
    filterRun_cstep_nil C k xs, filterRun_cstep_cons C k xs b bs⟩

end Sys2Proof.Machine

/-! PROOFS. Blocks and streams (R65, R103, R144, R151, R218, R262, R124): a run of samples may be cut
anywhere. -/

namespace Sys2Proof.Machine

section Runs

variable {F : Type} (C : Config F)

/-- R103: the phase carries over from one run to the next. -/
theorem oscRun_add (m n : Nat) (u : Osc F) :
    oscRun C (m + n) u =
      ((oscRun C n (oscRun C m u).1).1, (oscRun C m u).2 ++ (oscRun C n (oscRun C m u).1).2) := by
  induction m generalizing u with
  | zero => rw [Nat.zero_add]; rfl
  | succ m ih =>
    rw [Nat.succ_add]
    simp only [oscRun, ih, List.cons_append]

theorem oscRun_length (n : Nat) (u : Osc F) : (oscRun C n u).2.length = n := by
  induction n generalizing u with
  | zero => rfl
  | succ n ih => exact congrArg (· + 1) (ih _)

theorem filterRun_append {M : Type} (f : M → F → M × F) (xs ys : List F) (m : M) :
    filterRun C f (xs ++ ys) m =
      ((filterRun C f ys (filterRun C f xs m).1).1,
        (filterRun C f xs m).2 ++ (filterRun C f ys (filterRun C f xs m).1).2) := by
  induction xs generalizing m with
  | nil => rfl
  | cons x xs ih => simp only [List.cons_append, filterRun, ih]

theorem filterRun_length {M : Type} (f : M → F → M × F) (xs : List F) (m : M) :
    (filterRun C f xs m).2.length = xs.length := by
  induction xs generalizing m with
  | nil => rfl
  | cons x xs ih => exact congrArg (· + 1) (ih _)

theorem fskRun_append (xs ys : List F) (u : FskDemod F) :
    fskRun C (xs ++ ys) u =
      ((fskRun C ys (fskRun C xs u).1).1,
        (fskRun C xs u).2 ++ (fskRun C ys (fskRun C xs u).1).2) := by
  induction xs generalizing u with
  | nil => rfl
  | cons x xs ih => simp only [List.cons_append, fskRun, ih, List.append_assoc]

theorem fskRun_singleton (x : F) (u : FskDemod F) : fskRun C [x] u = fskSample C u x :=
  Prod.ext rfl (List.append_nil _)

theorem pskRun_append (xs ys : List F) (u : PskDemod F) :
    pskRun C (xs ++ ys) u =
      ((pskRun C ys (pskRun C xs u).1).1,
        (pskRun C xs u).2 ++ (pskRun C ys (pskRun C xs u).1).2) := by
  induction xs generalizing u with
  | nil => rfl
  | cons x xs ih => simp only [List.cons_append, pskRun, ih, List.append_assoc]

theorem pskRun_singleton (x : F) (u : PskDemod F) : pskRun C [x] u = pskSample C u x :=
  Prod.ext rfl (List.append_nil _)

end Runs

/-- Settles O36. -/
theorem oscRunsJoin : Obligations.OscRunsJoin := by
  intro s u a b hs hlt
  refine ⟨_, _, _, _, completesWith_oscGenerateCount hs a, oscRun_length _ _ _,
    fun t ht => completesWith_oscGenerateCount ht b, ?join, ?one⟩
  case join =>
    have hrun := completesWith_oscGenerateCount hs (a + b)
    rwa [BitVec.toNat_add_of_lt hlt, oscRun_add] at hrun
  case one =>
    rintro rfl
    exact ⟨_, rfl, completesWith_oscNextSample hs⟩

/-- Settles O37. -/
theorem filterBlocksSplit : Obligations.FilterBlocksSplit := by
  intro s xs ys hfin
  obtain ⟨hxs, hys⟩ := List.forall_mem_append.mp hfin
  constructor
  · intro u hs
    refine ⟨_, _, _, _, completesWith_bpfProcessBlock hs hxs, ?length,
      fun t ht => completesWith_bpfProcessBlock ht hys, ?join, ?one⟩
    case length => rw [filterRun_length, List.length_map]
    case join =>
      have hrun := completesWith_bpfProcessBlock hs hfin
      rwa [List.map_append, filterRun_append] at hrun
    case one =>
      rintro x rfl
      exact ⟨_, rfl, completesWith_bpfProcess hs (hxs x List.mem_cons_self)⟩
  · intro u hs
    refine ⟨_, _, _, _, completesWith_cbpfProcessBlock hs hxs, ?length',
      fun t ht => completesWith_cbpfProcessBlock ht hys, ?join', ?one'⟩
    case length' => rw [filterRun_length, List.length_map]
    case join' =>
      have hrun := completesWith_cbpfProcessBlock hs hfin
      rwa [List.map_append, filterRun_append] at hrun
    case one' =>
      rintro x rfl
      exact ⟨_, rfl, completesWith_cbpfProcess hs (hxs x List.mem_cons_self)⟩

/-- Settles O38. -/
theorem demodulatorBlocksSplit : Obligations.DemodulatorBlocksSplit := by
  intro s xs ys hfin
  obtain ⟨hxs, hys⟩ := List.forall_mem_append.mp hfin
  constructor
  · intro u hs
    refine ⟨_, _, _, _, completesWith_fskdemodProcessBlock hs hxs,
      fun t ht => completesWith_fskdemodProcessBlock ht hys, ?join, ?one⟩
    case join =>
      have hrun := completesWith_fskdemodProcessBlock hs hfin
      rwa [List.map_append, fskRun_append] at hrun
    case one =>
      rintro x rfl
      rw [List.map_singleton, fskRun_singleton]
      exact completesWith_fskdemodProcessSample hs (hxs x List.mem_cons_self)
  · intro u hs
    refine ⟨_, _, _, _, completesWith_pskdemodProcessBlock hs hxs,
      fun t ht => completesWith_pskdemodProcessBlock ht hys, ?join', ?one'⟩
    case join' =>
      have hrun := completesWith_pskdemodProcessBlock hs hfin
      rwa [List.map_append, pskRun_append] at hrun
    case one' =>
      rintro x rfl
      rw [List.map_singleton, pskRun_singleton]
      exact completesWith_pskdemodProcessSample hs (hxs x List.mem_cons_self)

/-! ### PROCESS fills a block (R124) -/

section Feed

variable {F : Type} (C : Config F) (n : Nat) (c : F)

/-- One PROCESS of a stream: the accumulator and the answers so far. -/
def feedStep (g : GoertzelAcc F × List (Option F)) (y : F) : GoertzelAcc F × List (Option F) :=
  ((goertzelFeed C n c g.1 y).1, g.2 ++ [(goertzelFeed C n c g.1 y).2])

/-- R120: every sample of the recursion is counted. -/
theorem foldl_gstep_n (xs : List F) (g : GoertzelAcc F) :
    (xs.foldl (gstep C c) g).n = g.n + xs.length := by
  induction xs generalizing g with
  | nil => rfl
  | cons x xs ih => rw [List.foldl_cons, ih, gstep, List.length_cons]; dsimp only; omega

/-- R124: samples that do not fill the block run the recursion and answer nil. -/
theorem foldl_feedStep_of_lt (xs : List F) (g : GoertzelAcc F) (answers : List (Option F))
    (hlt : g.n + xs.length < n) :
    xs.foldl (feedStep C n c) (g, answers) =
      (xs.foldl (gstep C c) g, answers ++ List.replicate xs.length none) := by
  induction xs generalizing g answers with
  | nil => exact Prod.ext rfl (List.append_nil _).symm
  | cons x xs ih =>
    rw [List.length_cons] at hlt
    have hstep : feedStep C n c (g, answers) x = (gstep C c g x, answers ++ [none]) := by
      rw [feedStep, goertzelFeed_of_incomplete C c x (show g.n + 1 ≠ n by omega)]
    have hrest : (gstep C c g x).n + xs.length < n := by rw [gstep]; dsimp only; omega
    rw [List.foldl_cons, hstep, ih _ _ hrest, List.foldl_cons, List.append_assoc,
      List.length_cons, List.replicate_succ, List.singleton_append]

end Feed

/-- Settles O40: all samples but the last leave the block unfilled, and the last fills it. -/
theorem processFillsBlock : Obligations.ProcessFillsBlock := by
  intro F C n c xs x hlen feed
  have hcount : (xs.foldl (gstep C c) (emptyAcc C)).n + 1 = n := by
    rw [foldl_gstep_n, ← hlen]
    exact congrArg (· + 1) (Nat.zero_add _)
  have hshort : (emptyAcc C).n + xs.length < n := by
    rw [← hlen]
    exact (Nat.zero_add xs.length).symm ▸ Nat.lt_succ_self _
  change (xs ++ [x]).foldl (feedStep C n c) (emptyAcc C, []) = _
  rw [List.foldl_append, foldl_feedStep_of_lt C n c xs _ _ hshort, List.nil_append, goertzelBlock,
    List.foldl_append]
  simp only [List.foldl_cons, List.foldl_nil, feedStep, goertzelFeed_of_complete C c x hcount]

end Sys2Proof.Machine

/-! PROOFS. Refusals (R302 to R305, R310) and TUNE (R333). -/

namespace Sys2Proof.Machine

/-! ### Refusals -/

section Refusals

variable {s : State}

/-- Settles O26: the test of the operand stands first in every operation, but for the length test of the
two fixed-window blocks. -/
theorem nonFiniteRefused : Obligations.NonFiniteRefused := by
  intro s
  constructor
  · intro x hx
    refine ⟨fun u hs => ⟨?_, ?_, ?_⟩, fun u hs => ?_, fun u hs => ?_, fun u hs => ⟨?_, ?_, ?_⟩,
      fun u hs => ⟨?_, ?_, ?_⟩, fun u hs => ⟨?_, ?_, ?_⟩, fun u hs => ⟨?_, ?_, ?_⟩⟩
    · exact refusedWith_onUnit (exec_oscGenerateDuration x s) hs rfl (requireFinite_not hx)
    · exact refusedWith_onUnit (exec_oscSetFrequency x s) hs rfl (requireFinite_not hx)
    · exact refusedWith_onUnit (exec_oscSetPhase x s) hs rfl (requireFinite_not hx)
    · exact refusedWith_onUnit (exec_goertzelProcess x s) hs rfl (requireFinite_not hx)
    · exact refusedWith_onUnit (exec_fskdetProcess x s) hs rfl (requireFinite_not hx)
    · exact refusedWith_onUnit (exec_bpfProcess x s) hs rfl (requireFinite_not hx)
    · exact refusedWith_onUnit (exec_bpfMag x s) hs rfl (requireFinite_not hx)
    · exact refusedWith_onUnit (exec_bpfMagDb x s) hs rfl (requireFinite_not hx)
    · exact refusedWith_onUnit (exec_cbpfProcess x s) hs rfl (requireFinite_not hx)
    · exact refusedWith_onUnit (exec_cbpfMag x s) hs rfl (requireFinite_not hx)
    · exact refusedWith_onUnit (exec_cbpfMagDb x s) hs rfl (requireFinite_not hx)
    · exact refusedWith_onUnit (exec_fskdemodProcessSample x s) hs rfl (requireFinite_not hx)
    · exact refusedWith_onUnit (exec_fskdemodTune x s) hs rfl (requireFinite_not hx)
    · exact refusedWith_onUnit (exec_fskdemodSetSquelch x s) hs rfl (requireFinite_not hx)
    · exact refusedWith_onUnit (exec_pskdemodProcessSample x s) hs rfl (requireFinite_not hx)
    · exact refusedWith_onUnit (exec_pskdemodTune x s) hs rfl (requireFinite_not hx)
    · exact refusedWith_onUnit (exec_pskdemodSetSquelch x s) hs rfl (requireFinite_not hx)
  · intro xs hxs
    refine ⟨fun u hs hlen => ?_, fun u hs hlen => ?_, fun u hs => ?_, fun u hs => ?_,
      fun u hs => ?_, fun u hs => ?_⟩
    · exact refusedWith_onUnit (exec_goertzelProcessBlock xs s) hs rfl
        ((requireLength_of hlen).trans (requireAllFinite_not hxs))
    · exact refusedWith_onUnit (exec_fskdetProcessBlock xs s) hs rfl
        ((requireLength_of hlen).trans (requireAllFinite_not hxs))
    · exact refusedWith_onUnit (exec_bpfProcessBlock xs s) hs rfl (requireAllFinite_not hxs)
    · exact refusedWith_onUnit (exec_cbpfProcessBlock xs s) hs rfl (requireAllFinite_not hxs)
    · exact refusedWith_onUnit (exec_fskdemodProcessBlock xs s) hs rfl (requireAllFinite_not hxs)
    · exact refusedWith_onUnit (exec_pskdemodProcessBlock xs s) hs rfl (requireAllFinite_not hxs)

/-- Settles O27: the length is tested before the elements; no other block operation tests it. -/
theorem blockLengths : Obligations.BlockLengths := by
  intro s xs
  refine ⟨fun u hs => ⟨fun hlen => ?_, fun hlen hfin => ?_⟩,
    fun u hs => ⟨fun hlen => ?_, fun hlen hfin => ?_⟩, fun hfin => ⟨fun u hs => ?_, fun u hs => ?_,
      fun u hs => ?_, fun u hs => ?_⟩⟩
  · exact refusedWith_onUnit (exec_goertzelProcessBlock xs s) hs rfl (requireLength_not hlen)
  · exact ⟨_, _, completesWith_goertzelProcessBlock hs hlen hfin⟩
  · exact refusedWith_onUnit (exec_fskdetProcessBlock xs s) hs rfl (requireLength_not hlen)
  · exact ⟨_, _, completesWith_fskdetProcessBlock hs hlen hfin⟩
  · exact ⟨_, _, completesWith_bpfProcessBlock hs hfin⟩
  · exact ⟨_, _, completesWith_cbpfProcessBlock hs hfin⟩
  · exact ⟨_, _, completesWith_fskdemodProcessBlock hs hfin⟩
  · exact ⟨_, _, completesWith_pskdemodProcessBlock hs hfin⟩

/-- R304: a duration of too many samples. -/
theorem oscGenerateDuration_of_long {F : Type} (C : Config F) (u : Osc F) {x : F32}
    (hfin : x.isFinite = true) (hlen : 2 ^ 32 ≤ durationCount C (C.num.ofF32 x) u.par.fs) :
    oscGenerateDuration C x u = .error .tooLong := by
  rw [oscGenerateDuration, requireFinite_of hfin, requireShort_not hlen]

theorem baudotEncodeString_of_long {F : Type} (C : Config F) (u : Baudot) {text : List U32}
    (hlen : 2 ^ 32 ≤ (baudotEncodeRun C text u).2.length) :
    baudotEncodeString C text u = .error .tooLong := by
  rw [baudotEncodeString, requireShort_not hlen]

theorem baudotEncodeWithPreamble_of_long {F : Type} (C : Config F) (u : Baudot) {text : List U32}
    {n : U32}
    (hlen : 2 ^ 32 ≤ n.toNat + (baudotEncodeRun C text (afterPreamble n u)).2.length) :
    baudotEncodeWithPreamble C text n u = .error .tooLong := by
  rw [afterPreamble_eq] at hlen
  rw [baudotEncodeWithPreamble, requireShort_not hlen]

theorem varicodeEncodeString_of_long {F : Type} (C : Config F) (u : Varicode) {text : List U32}
    (hlen : 2 ^ 32 ≤ (varicodeEncodeRun C text).length) :
    varicodeEncodeString C text u = .error .tooLong := by
  rw [varicodeEncodeString, requireShort_not hlen]

theorem varicodeEncodeWithPreamble_of_long {F : Type} (C : Config F) (u : Varicode)
    {text : List U32} {n : U32} (hlen : 2 ^ 32 ≤ n.toNat + (varicodeEncodeRun C text).length) :
    varicodeEncodeWithPreamble C text n u = .error .tooLong := by
  rw [varicodeEncodeWithPreamble, requireShort_not hlen]

/-- Settles O28: the five operations that build a list of no fixed bound test its length. -/
theorem tooLongRefused : Obligations.TooLongRefused := by
  intro s
  refine ⟨fun u x hs hfin hlen => ?_, fun u text hs hlen => ?_, fun u text n hs hlen => ?_,
    fun u text hs hlen => ?_, fun u text n hs hlen => ?_⟩
  · exact refusedWith_onUnit (exec_oscGenerateDuration x s) hs rfl
      (oscGenerateDuration_of_long machineConfig u hfin hlen)
  · exact refusedWith_onUnit (exec_baudotEncodeString text s) hs rfl
      (baudotEncodeString_of_long machineConfig u hlen)
  · exact refusedWith_onUnit (exec_baudotEncodeWithPreamble text n s) hs rfl
      (baudotEncodeWithPreamble_of_long machineConfig u hlen)
  · exact refusedWith_onUnit (exec_varicodeEncodeString text s) hs rfl
      (varicodeEncodeString_of_long machineConfig u hlen)
  · exact refusedWith_onUnit (exec_varicodeEncodeWithPreamble text n s) hs rfl
      (varicodeEncodeWithPreamble_of_long machineConfig u hlen)

theorem fskdemodTune_of_not_valid {F : Type} (C : Config F) (u : FskDemod F) {f : F32}
    (hfin : f.isFinite = true) (hvalid : ¬ u.par.validMark C (C.num.ofF32 f) = true) :
    fskdemodTune C f u = .error .invalidConfiguration := by
  rw [fskdemodTune, requireFinite_of hfin, if_neg hvalid]

theorem pskdemodTune_of_not_valid {F : Type} (C : Config F) (u : PskDemod F) {f : F32}
    (hfin : f.isFinite = true) (hvalid : ¬ u.par.validCenter C (C.num.ofF32 f) = true) :
    pskdemodTune C f u = .error .invalidConfiguration := by
  rw [pskdemodTune, requireFinite_of hfin, if_neg hvalid]

/-- Settles O29: what TUNE accepts is `validMark` and `validCenter`, both conjunctions. -/
theorem invalidTuneRefused : Obligations.InvalidTuneRefused := by
  intro s f hfin N
  refine ⟨?fsk, fun u hs h => ?psk⟩
  case fsk =>
    intro u hs x low high h
    have hvalid : ¬ u.par.validMark machineConfig (b64.ofF32 f) = true := by
      rw [validMark_iff]
      rintro ⟨hlow, hhigh⟩
      rcases h with h | h
      · exact Bool.false_ne_true (h.symm.trans hlow)
      · exact Bool.false_ne_true (h.symm.trans hhigh)
    exact refusedWith_onUnit (exec_fskdemodTune f s) hs rfl
      (fskdemodTune_of_not_valid machineConfig u hfin hvalid)
  case psk =>
    have hvalid : ¬ u.par.validCenter machineConfig (b64.ofF32 f) = true := by
      rw [validCenter_iff]
      rintro ⟨hlow, hhigh⟩
      rcases h with h | h
      · exact Bool.false_ne_true (h.symm.trans hlow)
      · exact Bool.false_ne_true (h.symm.trans hhigh)
    exact refusedWith_onUnit (exec_pskdemodTune f s) hs rfl
      (pskdemodTune_of_not_valid machineConfig u hfin hvalid)

end Refusals

/-- Settles O33: TUNE writes the frequency and clears the registers as RESET does. -/
theorem tuneIsFresh : Obligations.TuneIsFresh := by
  intro s f hfin
  refine ⟨?fsk, fun u hs hlow hhigh => ?psk⟩
  case fsk =>
    intro u hs hwf N fm fsp hlow hhigh
    obtain ⟨-, hrange⟩ := fskdemod_wf_iff.mp hwf
    have htune := completesWith_fskdemodTune hs hfin
      ((validMark_iff machineConfig u.par fm).mpr ⟨hlow, hhigh⟩)
    rwa [fskCleared_eq_init machineConfig (u := { u with markTuned := fm }) hrange.ring
      hrange.hist] at htune
  case psk =>
    have htune := completesWith_pskdemodTune hs hfin
      ((validCenter_iff machineConfig u.par _).mpr ⟨hlow, hhigh⟩)
    rwa [pskCleared_eq_init] at htune

end Sys2Proof.Machine

/-! PROOFS. The codes (spec/30_encoding.md): the tables of R80 and R84, the lookups of R160 and R180, and
the Varicode decoder after a gap (R183). -/

namespace Sys2Proof.Machine

/-! ### Baudot -/

section BaudotTables

variable {F : Type}

/-- R80, R81: no character stands at two codes, in one table or across the two. -/
theorem baudotTable_injective (N : Num F) {f g : Bool} {j k : Nat} {c : Byte}
    (hj : (baudotTable (defaultConfig N) f)[j]? = some (some c))
    (hk : (baudotTable (defaultConfig N) g)[k]? = some (some c)) : j = k := by
  have hpairs : ∀ f g : Bool, ∀ j k : Fin 32,
      (if f then baudotFigures else baudotLetters)[j]?.join =
          (if g then baudotFigures else baudotLetters)[k]?.join →
        (if f then baudotFigures else baudotLetters)[j]?.join ≠ none → j = k := by
    decide +kernel
  have hsame := hpairs f g ⟨j, (readsAs_of_entry hj).lt⟩ ⟨k, (readsAs_of_entry hk).lt⟩
  change (if f then baudotFigures else baudotLetters)[j]? = _ at hj
  change (if g then baudotFigures else baudotLetters)[k]? = _ at hk
  simp only [Fin.getElem?_fin, hj, hk] at hsame
  simpa using hsame

/-- R160: a table of R80 is searched for the scalar: the answer is the code at which it stands. -/
theorem findCode_eq_some_iff (N : Num F) (f : Bool) (u : U32) (k : Nat) :
    findCode (baudotTable (defaultConfig N) f) u = some k ↔
      ∃ c : Byte, (baudotTable (defaultConfig N) f)[k]? = some (some c) ∧ c.toNat = u.toNat := by
  constructor
  · intro h
    obtain ⟨hk, heq, -⟩ := List.findIdx?_eq_some_iff_getElem.mp h
    obtain ⟨c, hc, hcu⟩ := Option.map_eq_some_iff.mp (beq_iff_eq.mp heq)
    exact ⟨c, by rw [List.getElem?_eq_getElem hk, hc], hcu⟩
  · rintro ⟨c, hc, hcu⟩
    cases hfind : findCode (baudotTable (defaultConfig N) f) u with
    | none =>
      have hnone := List.findIdx?_eq_none_iff.mp hfind (some c) (List.mem_of_getElem? hc)
      simp [hcu] at hnone
    | some j =>
      have hu : u.setWidth 8 = c := by
        apply BitVec.eq_of_toNat_eq
        rw [BitVec.toNat_setWidth, ← hcu, Nat.mod_eq_of_lt c.isLt]
      have hj := getElem?_of_findCode hfind
      rw [hu] at hj
      rw [baudotTable_injective N hj hc]

theorem findCode_eq_none_iff (N : Num F) (f : Bool) (u : U32) :
    findCode (baudotTable (defaultConfig N) f) u = none ↔
      ∀ k : Nat, ¬ ∃ c : Byte, (baudotTable (defaultConfig N) f)[k]? = some (some c) ∧
        c.toNat = u.toNat := by
  simp only [← findCode_eq_some_iff]
  cases findCode (baudotTable (defaultConfig N) f) u <;> simp

/-- R81, R160: the lookup reads the two tables. -/
theorem baudotLookup_cases (N : Num F) (u : U32) :
    (∀ k, baudotLookup (defaultConfig N) u = some (k, .both) ↔
      findCode baudotLetters u = some k ∧ findCode baudotFigures u = some k) ∧
    (∀ k, baudotLookup (defaultConfig N) u = some (k, .letters) ↔
      findCode baudotLetters u = some k ∧ findCode baudotFigures u = none) ∧
    (∀ k, baudotLookup (defaultConfig N) u = some (k, .figures) ↔
      findCode baudotFigures u = some k ∧ findCode baudotLetters u = none) ∧
    (baudotLookup (defaultConfig N) u = none ↔
      findCode baudotLetters u = none ∧ findCode baudotFigures u = none) := by
  have hltrs : (defaultConfig N).baudotLtrs = baudotLetters := rfl
  have hfigs : (defaultConfig N).baudotFigs = baudotFigures := rfl
  rw [baudotLookup, hltrs, hfigs]
  cases hl : findCode baudotLetters u with
  | none => cases hf : findCode baudotFigures u <;> simp
  | some j =>
    cases hf : findCode baudotFigures u with
    | none => simp
    | some k =>
      obtain rfl := findCode_both hl hf
      simp

/-- R163: an unsupported character is a space; any other is emitted where the lookup places it. -/
theorem baudotEncodeOne_of_lookup (C : Config F) (u : Baudot) {scalar : U32} {found : Nat × CodeShift}
    (h : baudotLookup C (upper scalar) = some found) :
    baudotEncodeOne C u scalar = baudotEmit u found := by
  rw [baudotEncodeOne, h, Option.getD_some]

theorem baudotEncodeOne_of_unsupported (C : Config F) (u : Baudot) {scalar : U32}
    (h : baudotLookup C (upper scalar) = none) :
    baudotEncodeOne C u scalar = (u, [codeByte spaceCode]) := by
  rw [baudotEncodeOne, h, Option.getD_none, baudotEmit]

theorem baudotEmit_letters (u : Baudot) (k : Nat) :
    baudotEmit u (k, .letters) = (⟨false⟩, (if u.figs then [31] else []) ++ [codeByte k]) := by
  obtain ⟨_ | _⟩ := u <;> rfl

theorem baudotEmit_figures (u : Baudot) (k : Nat) :
    baudotEmit u (k, .figures) = (⟨true⟩, (if u.figs then [] else [27]) ++ [codeByte k]) := by
  obtain ⟨_ | _⟩ := u <;> rfl

end BaudotTables

/-- Settles O19: the lookup finds what the tables hold, and the four places it can name. -/
theorem baudotEncodeCharCases : Obligations.BaudotEncodeCharCases := by
  intro F C u scalar
  refine ⟨rfl, ?lookup, ?emit⟩
  case lookup =>
    intro N found inLtrs inFigs
    have hltrs (k : Nat) : findCode baudotLetters (upper scalar) = some k ↔ inLtrs k :=
      findCode_eq_some_iff N false _ k
    have hfigs (k : Nat) : findCode baudotFigures (upper scalar) = some k ↔ inFigs k :=
      findCode_eq_some_iff N true _ k
    have hnoLtrs : findCode baudotLetters (upper scalar) = none ↔ ∀ k, ¬ inLtrs k :=
      findCode_eq_none_iff N false _
    have hnoFigs : findCode baudotFigures (upper scalar) = none ↔ ∀ k, ¬ inFigs k :=
      findCode_eq_none_iff N true _
    obtain ⟨hboth, hletters, hfigures, hnone⟩ := baudotLookup_cases N (upper scalar)
    refine ⟨fun k => ?_, fun k => ?_, fun k => ?_, ?_⟩
    · rw [hboth, hltrs, hfigs]
    · rw [hletters, hltrs, hnoFigs]
    · rw [hfigures, hfigs, hnoLtrs]
    · rw [hnone, hnoLtrs, hnoFigs, forall_and]
  case emit =>
    split
    case h_1 h => exact baudotEncodeOne_of_unsupported C u h
    case h_2 k h => exact baudotEncodeOne_of_lookup C u h
    case h_3 k h => exact (baudotEncodeOne_of_lookup C u h).trans (baudotEmit_letters u k)
    case h_4 k h => exact (baudotEncodeOne_of_lookup C u h).trans (baudotEmit_figures u k)

/-! ### Varicode -/

section VaricodeCodes

variable {F : Type}

/-- R183: any bit but an idle one is shifted in; two 0 bits at the end complete a code. -/
theorem varicodeFeed_busy (C : Config F) {u : Varicode} {b : Bool}
    (hbusy : ¬ (u.acc = 0 ∧ u.ovf = false ∧ b = false)) :
    varicodeFeed C u b =
      if varicodeShift C u.acc b % 4 = 0 then
        (⟨0, false⟩, if ovfAfterShift C u.ovf u.acc then none
          else varicodeChar C (varicodeShift C u.acc b / 4))
      else (⟨varicodeShift C u.acc b, ovfAfterShift C u.ovf u.acc⟩, none) := by
  rw [varicodeFeed, if_neg hbusy]

/-- R183: a 0 bit empties the decoder, or leaves a register that ends in a single 0. -/
theorem varicodeFeed_zero (C : Config F) (u : Varicode) :
    (varicodeFeed C u false).1 = ⟨0, false⟩ ∨
      (varicodeFeed C u false).1.acc ≠ 0 ∧ (varicodeFeed C u false).2 = none := by
  by_cases hidle : u.acc = 0 ∧ u.ovf = false ∧ false = false
  case pos =>
    obtain ⟨acc, ovf⟩ := u
    obtain ⟨rfl, rfl, -⟩ := hidle
    exact .inl (congrArg Prod.fst (varicodeFeed_idle C))
  case neg =>
    rw [varicodeFeed_busy C hidle]
    split
    · exact .inl rfl
    · next hgap => exact .inr ⟨fun hzero => hgap (congrArg (· % 4) hzero), rfl⟩

/-- R183: a second 0 bit completes the gap. -/
theorem varicodeFeed_second_zero {C : Config F} (hw : 2 ≤ C.vAccBits) {u : Varicode}
    (hacc : u.acc ≠ 0) (heven : u.acc % 2 = 0) : (varicodeFeed C u false).1 = ⟨0, false⟩ := by
  have hdvd : 4 ∣ 2 ^ C.vAccBits := Nat.pow_dvd_pow 2 hw
  have hgap : varicodeShift C u.acc false % 4 = 0 := by
    rw [varicodeShift, Nat.mod_mod_of_dvd _ hdvd, Bool.toNat_false]
    omega
  rw [varicodeFeed_busy C (fun h => hacc h.1), if_pos hgap]

theorem varicodeFeed_zero_even {C : Config F} (hw : 2 ≤ C.vAccBits) (u : Varicode) :
    (varicodeFeed C u false).1.acc % 2 = 0 := by
  have hdvd : 2 ∣ 2 ^ C.vAccBits := Dvd.dvd.trans (by decide) (Nat.pow_dvd_pow 2 hw)
  rw [varicodeFeed]
  split
  case isTrue hidle => rw [hidle.1]
  case isFalse =>
    dsimp only
    split
    · rfl
    · rw [varicodeShift, Nat.mod_mod_of_dvd _ hdvd, Bool.toNat_false]
      omega

/-- R183: two 0 bits empty the decoder, whatever it holds, and answer at most one character. -/
theorem varicodeDecodeRun_two_zeros {C : Config F} (hw : 2 ≤ C.vAccBits) (u : Varicode) :
    ∃ first : Option Byte,
      varicodeDecodeRun C [bitByte false, bitByte false] u = (⟨0, false⟩, first.toList) := by
  simp only [varicodeDecodeRun_cons, varicodeDecodeRun_nil, lowBit_bitByte, List.append_nil]
  rcases varicodeFeed_zero C u with hempty | ⟨hacc, hnone⟩
  · refine ⟨(varicodeFeed C u false).2, ?_⟩
    rw [hempty, varicodeFeed_idle, Option.toList_none, List.append_nil]
  · refine ⟨(varicodeFeed C (varicodeFeed C u false).1 false).2, ?_⟩
    rw [varicodeFeed_second_zero hw hacc (varicodeFeed_zero_even hw u), hnone, Option.toList_none,
      List.nil_append]

/-- R180: a value decodes to the character at whose place in the table it stands, and only to it. -/
theorem varicodeChar_eq_some_iff (N : Num F) (v : Nat) (ch : Byte) :
    varicodeChar (defaultConfig N) v = some ch ↔
      ch.toNat < 128 ∧ (defaultConfig N).varicodeTable[ch.toNat]? = some v := by
  constructor
  · intro h
    obtain ⟨k, hk, rfl⟩ := Option.map_eq_some_iff.mp h
    obtain ⟨hlt, heq, -⟩ := List.findIdx?_eq_some_iff_getElem.mp hk
    have hlt' : k < 128 := varicodeTable_length N ▸ hlt
    rw [BitVec.toNat_ofNat, Nat.mod_eq_of_lt (hlt'.trans (by decide))]
    exact ⟨hlt', by rw [List.getElem?_eq_getElem hlt, beq_iff_eq.mp heq]⟩
  · rintro ⟨-, hv⟩
    obtain ⟨hlt, rfl⟩ := List.getElem?_eq_some_iff.mp hv
    rw [varicodeChar_getElem (varicodeTable_nodup N) hlt, BitVec.ofNat_toNat, BitVec.setWidth_eq]

/-- R85, R180: the digits of every entry of the table. -/
theorem varicodeTable_codes : ∀ v ∈ varicodeLow ++ varicodeHigh,
    v = (codeBits v).foldl (fun v b => 2 * v + if b then 1 else 0) 0 ∧
      1 ≤ (codeBits v).length ∧ (codeBits v).length ≤ 10 ∧ (codeBits v).head? = some true ∧
      (codeBits v).getLast? = some true ∧ ¬ [false, false] <:+: codeBits v := by
  decide +kernel

end VaricodeCodes

/-- Settles O21. -/
theorem varicodeDecodeBitCases : Obligations.VaricodeDecodeBitCases := by
  intro F C u b acc ovf
  have hacc : varicodeShift C u.acc b = acc := by cases b <;> rfl
  have hovf : ovfAfterShift C u.ovf u.acc = ovf := rfl
  refine ⟨fun h0 h1 h2 => if_pos ⟨h0, h1, h2⟩, fun hbusy => ?_⟩
  rw [varicodeFeed_busy C hbusy, hacc, hovf]
  exact ⟨fun hgap => if_neg hgap, fun hgap => if_pos hgap⟩

/-- Settles O44: after the two 0 bits the decoder is empty, and the rest is the round trip of R188. -/
theorem varicodeResynchronises : Obligations.VaricodeResynchronises := by
  intro F N u text C htext
  obtain ⟨first, hfirst⟩ := varicodeDecodeRun_two_zeros (C := C) (by decide : 2 ≤ 12) u
  have hall : text.filter (fun c => decide (c.toNat < 128)) = text :=
    List.filter_eq_self.mpr fun c hc => decide_eq_true (htext c hc)
  refine ⟨first, ?_⟩
  change varicodeDecodeRun C ([bitByte false, bitByte false] ++ varicodeEncodeRun C text) u = _
  rw [varicodeDecodeRun_append, hfirst, varicodeDecodeRun_encodeRun, hall]

/-- Settles O41: the parameters are those of `defaultConfig`, the tables are checked entry by entry. -/
theorem codeTables : Obligations.CodeTables := by
  refine ⟨rfl, ?_⟩
  intro F N C
  refine ⟨rfl, rfl, fun _ => rfl, rfl, rfl, rfl, rfl, rfl, rfl, rfl, rfl, rfl, rfl, rfl, rfl, rfl,
    rfl, rfl, rfl, rfl, rfl, rfl, rfl, rfl, rfl, rfl, rfl, rfl, rfl, rfl, rfl, rfl, rfl, rfl, rfl,
    rfl, fun f g j k c => baudotTable_injective N, varicodeTable_length N, varicodeTable_nodup N,
    varicodeChar_eq_some_iff N, fun u hu => ?_⟩
  have hlt : u.toNat < C.varicodeTable.length := by rwa [varicodeTable_length]
  rw [varicodeOf, List.getD_eq_getElem _ _ hlt, List.getElem?_eq_getElem hlt]
  obtain ⟨hvalue, hdigits⟩ := varicodeTable_codes _ (List.getElem_mem hlt)
  exact ⟨congrArg some hvalue, hdigits⟩

end Sys2Proof.Machine

/-! PROOFS. One sample of FSKDEMOD over every numerics (R202 to R217): the step cut where the automaton
begins, the automaton state by state, and what both write, emit and leave. -/

namespace Sys2Proof.Machine

section FskSample

variable {F : Type} (C : Config F) (u : FskDemod F)

/-! ### A sample and the step (R202, R205) -/

theorem fskSample_of_incomplete (x : F) (h : u.sampleCount + 1 ≠ u.par.step C) :
    fskSample C u x = ({ fskFrontEnd C u x with sampleCount := u.sampleCount + 1 }, []) :=
  if_neg h

theorem fskSample_of_complete (x : F) (h : u.sampleCount + 1 = u.par.step C) :
    fskSample C u x = fskStep C { fskFrontEnd C u x with sampleCount := 0 } :=
  if_pos h

/-- The effective squelch of a step (R208). -/
def stepSquelch : F := fskSquelch C (fskMeasure C u)

/-- The unit as the automaton finds it in a step: measured, detected, scanned and retuned. -/
def stepInput : FskDemod F :=
  fskRetune C (fskAfcScan C (fskDetect C (stepSquelch C u) (fskMeasure C u)).1)

/-- R205: the automaton runs last; the event of the detection stands before its event. -/
theorem fskStep_eq :
    fskStep C u =
      ((fskMachine C (stepSquelch C u) (stepInput C u)).1,
        (fskDetect C (stepSquelch C u) (fskMeasure C u)).2 ++
          (fskMachine C (stepSquelch C u) (stepInput C u)).2) := rfl

/-- R206 to R211 write no parameter, no setting, no part of the front end but the filter memories, and no
register of the automaton. -/
theorem stepInput_eq :
    stepInput C u =
      { u with
        bpf := (stepInput C u).bpf
        corr := (stepInput C u).corr
        hist := (stepInput C u).hist
        strength := (fskMeasure C u).strength
        noiseFloor := (fskMeasure C u).noiseFloor
        detected :=
          fskDetectedNext C u.detected (fskMeasure C u).strength (stepSquelch C u)
        afcCount := (stepInput C u).afcCount
        afcSmooth := (stepInput C u).afcSmooth
        afcOffset := (stepInput C u).afcOffset } := by
  rw [stepInput, (fskRetune_eq C _).1, fskAfcScan_eq]
  rfl

/-- R211: the offset moves only from `WaitingForStart`. -/
theorem stepInput_afcOffset (h : u.phase ≠ .waitingForStart) :
    (stepInput C u).afcOffset = u.afcOffset := by
  have hphase : (fskAfcScan C (fskDetect C (stepSquelch C u) (fskMeasure C u)).1).phase ≠
      .waitingForStart := by
    rw [fskAfcScan_eq]
    exact h
  rw [stepInput, (fskRetune_eq C _).2 hphase, fskAfcScan_eq]
  rfl

/-! ### The automaton, state by state (R212 to R217) -/

variable (sq : F) {u}

theorem fskMachine_of_waiting (h : u.phase = .waitingForStart) :
    fskMachine C sq u = (fskWaitingForStart C u, []) := by rw [fskMachine, h]

theorem fskMachine_of_start (h : u.phase = .inStartBit) :
    fskMachine C sq u = (fskInStartBit C u, []) := by rw [fskMachine, h]

theorem fskMachine_of_data (h : u.phase = .receivingData) :
    fskMachine C sq u = (fskReceivingData C u, []) := by rw [fskMachine, h]

theorem fskMachine_of_stop (h : u.phase = .inStopBits) :
    fskMachine C sq u = fskInStopBits C sq u := by rw [fskMachine, h]

variable {sq}

/-- What R216 asks of a frame at the end of its stop bit. -/
def framePasses (sq : F) (u : FskDemod F) : Prop :=
  C.num.lt C.thresh u.corr = true ∧ C.num.le sq u.strength = true ∧
    C.num.le u.par.minConfidence u.minConf = true

theorem fskInStopBits_of_early (h : u.tick + 1 ≠ C.sampleTick) :
    fskInStopBits C sq u = ({ u with tick := u.tick + 1 }, []) := if_neg h

/-- R215, R216: a frame that fails is dropped whole. -/
theorem fskInStopBits_of_fails (h : u.tick + 1 = C.sampleTick) (hfails : ¬ framePasses C sq u) :
    fskInStopBits C sq u = (fskEnterWaiting C u, []) := by
  unfold fskInStopBits
  simp only [h, if_true]
  split
  case isFalse => rfl
  case isTrue hstop =>
    have hgate : ¬ (C.num.le sq u.strength && C.num.le u.par.minConfidence u.minConf) = true :=
      fun hgate => hfails ⟨hstop, Bool.and_eq_true_iff.mp hgate⟩
    rw [fskDeliver, if_neg hgate]

/-- R216: past the gate the decoder takes the code, and its character is emitted. -/
theorem fskDeliver_of_gate
    (hgate : C.num.le sq u.strength = true ∧ C.num.le u.par.minConfidence u.minConf = true) :
    fskDeliver C sq u =
      ({ u with dec := (baudotDecodeCode C u.dec u.code.toNat).1 },
        (baudotDecodeCode C u.dec u.code.toNat).2.toList.map fun ch =>
          Event.decode ch (C.num.toF32 u.markTuned)) := by
  rw [fskDeliver, if_pos (Bool.and_eq_true_iff.mpr hgate)]
  dsimp only
  cases hch : (baudotDecodeCode C u.dec u.code.toNat).2 <;> rfl

/-- R216: a frame that passes reaches the Baudot decoder as one code. -/
theorem fskInStopBits_of_passes (h : u.tick + 1 = C.sampleTick) (hpasses : framePasses C sq u) :
    fskInStopBits C sq u =
      (fskEnterWaiting C { u with dec := (baudotDecodeCode C u.dec u.code.toNat).1 },
        (baudotDecodeCode C u.dec u.code.toNat).2.toList.map fun ch =>
          Event.decode ch (C.num.toF32 u.markTuned)) := by
  obtain ⟨hstop, hgate⟩ := hpasses
  unfold fskInStopBits
  simp only [h, if_true, hstop, fskDeliver_of_gate C hgate]

/-- R161: what the decoder answers stands in one of its tables. -/
theorem baudotDecodeCode_mem {d : Baudot} {k : Nat} {ch : Byte}
    (h : (baudotDecodeCode C d k).2 = some ch) :
    some ch ∈ C.baudotLtrs ∨ some ch ∈ C.baudotFigs := by
  rw [baudotDecodeCode_eq] at h
  dsimp only at h
  split at h
  case isTrue => cases h
  case isFalse =>
    have hmem : some ch ∈ baudotTable C d.figs := by
      rw [List.getD_eq_getElem?_getD] at h
      cases hget : (baudotTable C d.figs)[k]? with
      | none => simp [hget] at h
      | some e =>
        rw [hget, Option.getD_some] at h
        exact h ▸ List.mem_of_getElem? hget
    rw [baudotTable] at hmem
    split at hmem
    · exact .inr hmem
    · exact .inl hmem

/-- R216: the automaton emits at most one DECODE, of a frame that passes, and then waits. -/
theorem fskMachine_events :
    ∃ ch : Option Byte,
      (fskMachine C sq u).2 =
          ch.toList.map (fun k => Event.decode k (C.num.toF32 u.markTuned)) ∧
        ∀ k ∈ ch, (some k ∈ C.baudotLtrs ∨ some k ∈ C.baudotFigs) ∧ framePasses C sq u ∧
          u.phase = .inStopBits ∧ (fskMachine C sq u).1.phase = .waitingForStart := by
  have hsilent (h : (fskMachine C sq u).2 = []) : ∃ ch : Option Byte,
      (fskMachine C sq u).2 =
          ch.toList.map (fun k => Event.decode k (C.num.toF32 u.markTuned)) ∧
        ∀ k ∈ ch, (some k ∈ C.baudotLtrs ∨ some k ∈ C.baudotFigs) ∧ framePasses C sq u ∧
          u.phase = .inStopBits ∧ (fskMachine C sq u).1.phase = .waitingForStart :=
    ⟨none, h, fun k hk => (Option.not_mem_none k hk).elim⟩
  by_cases hphase : u.phase = .inStopBits
  case neg => exact hsilent (fskMachine_silent C sq u hphase)
  case pos =>
    rw [fskMachine_of_stop C sq hphase] at hsilent ⊢
    by_cases htick : u.tick + 1 = C.sampleTick
    case neg => exact hsilent (by rw [fskInStopBits_of_early C htick])
    case pos =>
      by_cases hpasses : framePasses C sq u
      case neg => exact hsilent (by rw [fskInStopBits_of_fails C htick hpasses])
      case pos =>
        rw [fskInStopBits_of_passes C htick hpasses]
        exact ⟨_, rfl, fun k hk => ⟨baudotDecodeCode_mem C hk, hpasses, hphase, rfl⟩⟩

end FskSample

/-- Settles O23: the part of a sample before the step is the front end; the step follows when the count is
full. -/
theorem fskSampleBetweenSteps : Obligations.FskSampleBetweenSteps := by
  intro F C u x N spb fm fsp low high f0 q w0 al a0 k f z g v
  have hcoef : u.coef C = k := rfl
  have hfront : fskFrontEnd C u x = v := rfl
  constructor
  · intro h
    rw [fskSample_of_incomplete C u x h, hfront]
  · intro h
    rw [fskSample_of_complete C u x h, hfront]

/-- Settles O46: the automaton state by state. -/
theorem fskFrameDropped : Obligations.FskFrameDropped := by
  intro F C sq u N waiting confidence
  refine ⟨fun hphase => ?waiting, fun hphase => ?start, fun hphase => ?data,
    fun hphase htick => ?early, fun hphase htick hfails => ?fails, ?passes⟩
  case waiting =>
    rw [fskMachine_of_waiting C sq hphase, fskWaitingForStart]
    exact ⟨fun h => by rw [h]; rfl, fun h => by rw [h]; rfl⟩
  case start =>
    rw [fskMachine_of_start C sq hphase]
    refine ⟨fun htick => ?_, fun htick => ?_⟩
    · have hstart : fskInStartBit C u =
          if N.lt u.corr N.zero then { u with tick := u.tick + 1 } else fskEnterWaiting C u :=
        if_pos htick
      rw [hstart]
      exact ⟨fun h => by rw [h]; rfl, fun h => by rw [h]; rfl⟩
    · rw [fskInStartBit, if_neg htick]
  case data =>
    rw [fskMachine_of_data C sq hphase]
    refine ⟨fun htick => ?_, fun htick hfour => ?_, fun htick hfour => ?_⟩
    · rw [fskReceivingData, if_pos htick]
      rfl
    · rw [fskReceivingData, if_neg htick, if_pos hfour]
      exact ⟨fun h => by rw [if_pos h], fun h => by rw [if_neg h]⟩
    · rw [fskReceivingData, if_neg htick, if_neg hfour]
  case early => rw [fskMachine_of_stop C sq hphase, fskInStopBits_of_early C htick]
  case fails =>
    have hnot : ¬ framePasses C sq u := by
      rintro ⟨hstop, hstrength, hconf⟩
      rcases hfails with h | h | h
      · exact Bool.false_ne_true (h.symm.trans hstop)
      · exact Bool.false_ne_true (h.symm.trans hstrength)
      · exact Bool.false_ne_true (h.symm.trans hconf)
    rw [fskMachine_of_stop C sq hphase, fskInStopBits_of_fails C htick hnot]
    rfl
  case passes =>
    intro hphase htick hstop hstrength hconf k ch
    rw [fskMachine_of_stop C sq hphase,
      fskInStopBits_of_passes C htick ⟨hstop, hstrength, hconf⟩, baudotDecodeCode_eq]
    rfl

/-- Settles O47: the detection emits the SIGNAL and the automaton the DECODE; what the automaton finds is
what the sample leaves, but for the automaton's own registers. -/
theorem fskEvents : Obligations.FskEvents := by
  intro F C u x p
  by_cases hcount : u.sampleCount + 1 = u.par.step C
  case neg =>
    refine ⟨none, ?_, fun k hk => (Option.not_mem_none k hk).elim⟩
    have hp : p = _ := fskSample_of_incomplete C u x hcount
    have hsame : p.1.detected = u.detected := by rw [hp]; rfl
    rw [if_pos hsame, hp]
    rfl
  case pos =>
    generalize hw : { fskFrontEnd C u x with sampleCount := 0 } = w
    have hp : p = fskStep C w := by rw [← hw]; exact fskSample_of_complete C u x hcount
    have hdetected : p.1.detected =
        fskDetectedNext C w.detected (fskMeasure C w).strength (stepSquelch C w) := by
      rw [hp, fskStep_eq, fskMachine_eq, stepInput_eq]
    have hstrength : p.1.strength = (fskMeasure C w).strength := by
      rw [hp, fskStep_eq, fskMachine_eq, stepInput_eq]
    have hsquelch : fskSquelch C p.1 = stepSquelch C w := by
      rw [hp, fskStep_eq, fskMachine_eq, stepInput_eq]
      rfl
    obtain ⟨ch, hevents, hch⟩ := fskMachine_events C (sq := stepSquelch C w) (u := stepInput C w)
    have hmark : (stepInput C w).markTuned = u.markTuned := by rw [stepInput_eq, ← hw]; rfl
    refine ⟨ch, ?_, fun k hk => ?_⟩
    · have hsignal : (fskDetect C (stepSquelch C w) (fskMeasure C w)).2 =
          if p.1.detected = u.detected then []
          else [Event.signal p.1.detected (C.num.toF32 u.markTuned)] := by
        rw [(fskDetect_eq C _ _).2, hdetected, ← hw]
        rfl
      rw [← hsignal, hp, fskStep_eq, hevents, hmark]
    · obtain ⟨htable, ⟨-, hle, hconf⟩, hphase, hwaiting⟩ := hch k hk
      refine ⟨htable, ?_, ?_, ?_, ?_⟩
      · rw [hsquelch, hstrength]
        rw [stepInput_eq] at hle
        exact hle
      · rw [stepInput_eq, ← hw] at hconf
        exact hconf
      · rw [stepInput_eq, ← hw] at hphase
        exact hphase
      · rw [hp, fskStep_eq]
        exact hwaiting

/-! ### What a sample leaves (R23, R211) -/

section Settings

variable {F : Type} (C : Config F)

/-- A sample writes no setting. -/
theorem fskSample_settings (u : FskDemod F) (x : F) :
    (fskSample C u x).1.markTuned = u.markTuned ∧
      (fskSample C u x).1.squelchManual = u.squelchManual ∧
      (fskSample C u x).1.reverse = u.reverse := by
  by_cases hcount : u.sampleCount + 1 = u.par.step C
  · rw [fskSample_of_complete C u x hcount, fskStep_eq, fskMachine_eq, stepInput_eq]
    exact ⟨rfl, rfl, rfl⟩
  · rw [fskSample_of_incomplete C u x hcount]
    exact ⟨rfl, rfl, rfl⟩

theorem fskRun_settings (xs : List F) (u : FskDemod F) :
    (fskRun C xs u).1.par = u.par ∧ (fskRun C xs u).1.markTuned = u.markTuned ∧
      (fskRun C xs u).1.squelchManual = u.squelchManual ∧
      (fskRun C xs u).1.reverse = u.reverse := by
  induction xs generalizing u with
  | nil => exact ⟨rfl, rfl, rfl, rfl⟩
  | cons x xs ih =>
    obtain ⟨hpar, hmark, hsquelch, hreverse⟩ := ih (fskSample C u x).1
    obtain ⟨hmark', hsquelch', hreverse'⟩ := fskSample_settings C u x
    exact ⟨hpar.trans (fskSample_par C u x), hmark.trans hmark', hsquelch.trans hsquelch',
      hreverse.trans hreverse'⟩

theorem fskSample_afcOffset (u : FskDemod F) (x : F) (h : u.phase ≠ .waitingForStart) :
    (fskSample C u x).1.afcOffset = u.afcOffset := by
  by_cases hcount : u.sampleCount + 1 = u.par.step C
  · rw [fskSample_of_complete C u x hcount, fskStep_eq, fskMachine_eq]
    exact stepInput_afcOffset C _ h
  · rw [fskSample_of_incomplete C u x hcount]
    rfl

end Settings

/-- Settles O48. -/
theorem fskSettingsKept : Obligations.FskSettingsKept :=
  fun _ C u => ⟨fun xs => fskRun_settings C xs u,
    fun x hmoved => not_not.mp fun hphase => hmoved (fskSample_afcOffset C u x hphase)⟩

/-! ### What a step measures (R206 to R211), written out -/

section Measures

variable {F : Type} (C : Config F)

/-- R207: the weights count the entries of the history from its oldest. -/
theorem weightedSum_eq_foldl (hist : List F) (n : Nat) (sum : F) :
    weightedSum C (n + 1) sum hist =
      (hist.zipIdx n).foldl
        (fun sum h => C.num.add sum (C.num.mul (C.num.nat (h.2 + 1)) h.1)) sum := by
  induction hist generalizing n sum with
  | nil => rfl
  | cons h hist ih => rw [weightedSum, ih, List.zipIdx_cons, List.foldl_cons]

/-- R209, as conditions. -/
theorem fskDetectedNext_eq (detected : Bool) (strength sq : F) :
    fskDetectedNext C detected strength sq =
      if detected = false ∧ C.num.le sq strength = true then true
      else if detected = true ∧ C.num.lt strength (C.num.mul C.hystOff sq) = true then false
      else detected := by
  simp only [fskDetectedNext, Bool.and_eq_true, decide_eq_true_eq]

/-- R210: the scan is due every `AFC_PERIOD` steps and takes part where it is enabled and there is a
signal. -/
theorem fskAfcScan_smooth (u : FskDemod F) :
    fskAfcScan C u =
      { u with
        afcCount := if u.afcCount + 1 = C.afcPeriod then 0 else u.afcCount + 1
        afcSmooth :=
          if u.afcCount + 1 = C.afcPeriod ∧ u.par.afcEnabled = true ∧ u.detected = true then
            afcSmoothed C u.afcSmooth (afcBest C (fskSeparation C u))
          else u.afcSmooth } := by
  by_cases hdue : u.afcCount + 1 = C.afcPeriod
  case neg => simp only [fskAfcScan, hdue, if_false, false_and]
  case pos =>
    by_cases hon : u.par.afcEnabled = true ∧ u.detected = true
    · simp only [fskAfcScan, hdue, if_true, hon, and_self, Bool.and_self]
    · have hoff : ¬ (u.par.afcEnabled && u.detected) = true := by rwa [Bool.and_eq_true]
      simp only [fskAfcScan, hdue, if_true, hoff, if_false, hon, and_false, Bool.false_eq_true]

/-- R211: when a retune is due. -/
def retuneDue (u : FskDemod F) : Bool :=
  C.num.lt C.afcRetuneHz (C.num.abs u.afcSmooth) && decide (u.phase = .waitingForStart)

/-- R211: whether the frequency it would move to is legal. -/
def retuneLegal (u : FskDemod F) : Bool :=
  u.par.validMark C (C.num.add (C.num.add u.markTuned u.afcOffset) u.afcSmooth)

/-- R211: a retune is taken, dropped or not due. -/
theorem fskRetune_cases (u : FskDemod F) :
    fskRetune C u =
      { u with
        afcSmooth := if retuneDue C u then C.num.zero else u.afcSmooth
        afcOffset :=
          if retuneDue C u && retuneLegal C u then C.num.add u.afcOffset u.afcSmooth
          else u.afcOffset
        bpf :=
          if retuneDue C u && retuneLegal C u then clearSections C C.bpfSections else u.bpf } := by
  change (if retuneDue C u then (if retuneLegal C u then _ else _) else u) = _
  cases hdue : retuneDue C u with
  | false => rfl
  | true => cases hlegal : retuneLegal C u <;> rfl

end Measures

/-- Settles O49: `stepInput` written out, part by part in the order of R205. -/
theorem fskStepMeasures : Obligations.FskStepMeasures := by
  intro F C u N win power fm fsp mP sP c hist strength rate noiseFloor sq detected sep best smooth f
    due legal r m
  have hstrength : historyStrength C hist = strength := by
    rw [historyStrength, weightedSum_eq_foldl]
    rfl
  have hquality : fskStrength C (fskPowers C u) (fskCorrelate C (fskPowers C u) u) =
      { u with
        corr := if u.reverse then N.neg c else c
        hist := hist
        strength := strength } := by
    rw [← hstrength]
    rfl
  have hmeasure : fskMeasure C u =
      { u with
        corr := if u.reverse then N.neg c else c
        hist := hist
        strength := strength
        noiseFloor := noiseFloor } := by
    rw [fskMeasure, hquality]
    rfl
  have hsq : stepSquelch C u = sq := by
    rw [stepSquelch, hmeasure]
    rfl
  have hdetected : fskDetectedNext C u.detected strength sq = detected :=
    fskDetectedNext_eq C u.detected strength sq
  have hdetect : fskDetect C sq (fskMeasure C u) =
      ({ u with
          corr := if u.reverse then N.neg c else c
          hist := hist
          strength := strength
          noiseFloor := noiseFloor
          detected := detected },
        if detected = u.detected then []
        else [Event.signal detected (N.toF32 u.markTuned)]) := by
    rw [hmeasure, ← hdetected]
    rfl
  have hinput : stepInput C u = r := by
    rw [stepInput, hsq, hdetect, fskAfcScan_smooth, fskRetune_cases]
    rfl
  have hstep := fskStep_eq C u
  rw [hsq, hdetect, hinput] at hstep
  exact ⟨hstep, fskMachine_eq C sq r⟩

end Sys2Proof.Machine

/-! PROOFS. PSKDEMOD (R251 to R269): one sample and the symbol boundary over every numerics, and over the
exact reals the decisions and the ranges of the registers. -/

namespace Sys2Proof.Machine

section PskSample

variable {F : Type} (C : Config F) (u : PskDemod F)

/-! ### A sample and the symbol boundary (R251, R255) -/

/-- The unit mixed and filtered (R252, R253). -/
def pskFiltered (x : F) : PskDemod F := pskLowPass C (pskMix C u x).1 (pskMix C u x).2

/-- The unit after the part of a sample before the symbol boundary: mixed, filtered, gated (the early
gates in the first half of the symbol, the late ones in the second) and counted. -/
def pskCounted (x : F) : PskDemod F :=
  let f := pskFiltered C u x
  { f with
    n := u.n + 1
    onI := C.num.add u.onI f.iF
    onQ := C.num.add u.onQ f.qF
    sumSq := C.num.add u.sumSq (C.num.add (C.num.mul f.iF f.iF) (C.num.mul f.qF f.qF))
    earlyI := if u.n < u.par.earlyLength C then C.num.add u.earlyI f.iF else u.earlyI
    earlyQ := if u.n < u.par.earlyLength C then C.num.add u.earlyQ f.qF else u.earlyQ
    lateI := if u.n < u.par.earlyLength C then u.lateI else C.num.add u.lateI f.iF
    lateQ := if u.n < u.par.earlyLength C then u.lateQ else C.num.add u.lateQ f.qF }

theorem pskCounted_eq_gates (x : F) :
    { pskGates C (pskFiltered C u x) with n := (pskGates C (pskFiltered C u x)).n + 1 } =
      pskCounted C u x := by
  by_cases h : u.n < u.par.earlyLength C
  · have hgates : pskGates C (pskFiltered C u x) = _ := if_pos h
    rw [hgates]
    simp only [pskCounted, h, if_true]
    rfl
  · have hgates : pskGates C (pskFiltered C u x) = _ := if_neg h
    rw [hgates]
    simp only [pskCounted, h, if_false]
    rfl

theorem pskSample_eq (x : F) :
    pskSample C u x =
      if u.n + 1 = u.par.symbolLength C then pskSymbol C (pskCounted C u x)
      else (pskCounted C u x, []) := by
  rw [← pskCounted_eq_gates, pskGates_eq]
  rw [pskSample, pskGates_eq]
  rfl

/-- R255 to R261: the registers the boundary leaves; the bits run through the decoder as DECODE_BITS
takes them. -/
theorem pskSymbol_fst :
    (pskSymbol C u).1 =
      pskCleanUp C (pskValues C u)
        { pskTiming C (pskDetect C (pskValues C u) u).1 with
          dec := (varicodeDecodeRun C ((pskBits C u (pskValues C u)).map bitByte) u.dec).1 } := by
  unfold pskSymbol
  simp only [pskDeliver_run]
  rfl

/-- R258, R259: the event of the detection, then the characters the gate lets through. -/
theorem pskSymbol_snd :
    (pskSymbol C u).2 =
      (if (pskSymbol C u).1.detected = u.detected then []
        else [Event.signal (pskSymbol C u).1.detected (C.num.toF32 u.centerTuned)]) ++
      if (pskSymbol C u).1.detected && C.num.le u.squelch (pskSymbol C u).1.strength then
        (varicodeDecodeRun C ((pskBits C u (pskValues C u)).map bitByte) u.dec).2.map fun ch =>
          Event.decode ch (C.num.toF32 u.centerTuned)
      else [] := by
  rw [pskSymbol_fst]
  unfold pskSymbol
  simp only [pskDeliver_run]
  rfl

/-! ### The bits of a symbol (R256, R257) -/

theorem qpskDibit_toNat {z : Int} (h0 : 0 ≤ z) (h4 : z < 4) :
    qpskDibit z.toNat =
      if z = 0 then [false, false] else if z = 1 then [false, true]
      else if z = 2 then [true, true] else [true, false] := by
  interval_cases z <;> rfl

theorem qpskDibit_length (r : Nat) : (qpskDibit r).length = 2 := by
  unfold qpskDibit
  split <;> rfl

theorem pskBits_length (v : PskSymbol F) :
    (pskBits C u v).length =
      match u.par.order with
      | .bpsk => 1
      | .qpsk => 2 := by
  unfold pskBits
  cases u.par.order
  · rfl
  · exact qpskDibit_length _

/-! ### One symbol completes at most one character (R183, R259) -/

theorem varicodeFeed_emptied {u : Varicode} {b : Bool} {ch : Byte}
    (h : (varicodeFeed C u b).2 = some ch) : (varicodeFeed C u b).1 = ⟨0, false⟩ := by
  by_cases hidle : u.acc = 0 ∧ u.ovf = false ∧ b = false
  case pos => rw [varicodeFeed, if_pos hidle] at h; cases h
  case neg =>
    rw [varicodeFeed_busy C hidle] at h ⊢
    split at h
    case isTrue hgap => rw [if_pos hgap]
    case isFalse => cases h

theorem varicodeFeed_empty_silent {C : Config F} (hw : 0 < C.vAccBits) (b : Bool) :
    (varicodeFeed C ⟨0, false⟩ b).2 = none := by
  cases b with
  | false => rfl
  | true =>
    have hone : varicodeShift C 0 true = 1 := Nat.mod_eq_of_lt (Nat.one_lt_two_pow hw.ne')
    rw [varicodeFeed_busy C (by simp), hone]
    rfl

theorem varicodeDecodeRun_short {C : Config F} (hw : 0 < C.vAccBits) {bits : List Bool}
    (hlen : bits.length ≤ 2) (u : Varicode) :
    ∃ ch : Option Byte, (varicodeDecodeRun C (bits.map bitByte) u).2 = ch.toList := by
  match bits, hlen with
  | [], _ => exact ⟨none, rfl⟩
  | [b], _ =>
    refine ⟨(varicodeFeed C u b).2, ?_⟩
    simp only [List.map_cons, List.map_nil, varicodeDecodeRun_cons, varicodeDecodeRun_nil,
      lowBit_bitByte, List.append_nil]
  | [b, b'], _ =>
    simp only [List.map_cons, List.map_nil, varicodeDecodeRun_cons, varicodeDecodeRun_nil,
      lowBit_bitByte, List.append_nil]
    cases hfirst : (varicodeFeed C u b).2 with
    | none => exact ⟨_, rfl⟩
    | some ch =>
      rw [varicodeFeed_emptied C hfirst, varicodeFeed_empty_silent hw]
      exact ⟨some ch, rfl⟩

/-! ### The timing error is not read (R260, R269) -/

theorem pskCounted_timingError (e x : F) :
    pskCounted C { u with timingError := e } x = { pskCounted C u x with timingError := e } := rfl

theorem pskSymbol_timingError (e : F) : pskSymbol C { u with timingError := e } = pskSymbol C u := rfl

theorem pskSample_timingError (e x : F) :
    ∃ e', pskSample C { u with timingError := e } x =
      ({ (pskSample C u x).1 with timingError := e' }, (pskSample C u x).2) := by
  rw [pskSample_eq C u, pskSample_eq C { u with timingError := e }, pskCounted_timingError,
    pskSymbol_timingError]
  dsimp only
  split
  · exact ⟨_, rfl⟩
  · exact ⟨e, rfl⟩

theorem pskRun_timingError (xs : List F) (e : F) :
    ∃ e', pskRun C xs { u with timingError := e } =
      ({ (pskRun C xs u).1 with timingError := e' }, (pskRun C xs u).2) := by
  induction xs generalizing u e with
  | nil => exact ⟨e, rfl⟩
  | cons x xs ih =>
    obtain ⟨e₁, hsample⟩ := pskSample_timingError C u e x
    obtain ⟨e₂, hrun⟩ := ih (pskSample C u x).1 e₁
    refine ⟨e₂, ?_⟩
    simp only [pskRun, hsample, hrun]

end PskSample

/-- Settles O25. -/
theorem pskSampleInsideSymbol : Obligations.PskSampleInsideSymbol := by
  intro F C u x N i q S early v
  have hcounted : pskCounted C u x = v := rfl
  rw [pskSample_eq, hcounted]
  exact ⟨fun h => if_neg h, fun h => if_pos h⟩

/-- Settles O51: `pskSymbol_fst` and `pskSymbol_snd`, with the bits as the statement decides them. -/
theorem pskSymbolBoundary : Obligations.PskSymbolBoundary := by
  intro F C u N len cI cQ p e snr eM lM dp region bits d t
  have hbits : pskBits C u (pskValues C u) = bits := by
    unfold pskBits
    simp only [bits]
    cases u.par.order with
    | bpsk => rfl
    | qpsk => exact qpskDibit_toNat (Int.emod_nonneg _ (by decide)) (Int.emod_lt_of_pos _ (by decide))
  have hevents := pskSymbol_snd C u
  have ht : t = _ := pskSymbol_fst C u
  rw [hbits] at hevents ht
  refine ⟨congrArg PskDemod.dec ht, hevents, ?_⟩
  rw [ht]
  exact ⟨rfl, rfl, rfl, rfl, rfl, rfl, rfl, rfl, rfl, rfl, rfl, rfl, rfl, rfl, rfl, rfl, rfl, rfl, rfl⟩

/-- Settles O52: a symbol's one or two bits complete at most one character, so what the gate lets through
is an option. -/
theorem pskEvents : Obligations.PskEvents := by
  intro F C u x hw p S
  by_cases hcount : u.n + 1 = u.par.symbolLength C
  case neg =>
    have hp : p = (pskCounted C u x, []) := (pskSample_eq C u x).trans (if_neg hcount)
    have hsame : p.1.detected = u.detected := by rw [hp]; rfl
    refine ⟨none, [], ?_, fun k hk => (Option.not_mem_none k hk).elim, (if_neg hcount).symm, ?_,
      (ite_self _).symm⟩
    · rw [if_pos hsame, hp]
      rfl
    · rw [hp]
      rfl
  case pos =>
    have hp : p = pskSymbol C (pskCounted C u x) := (pskSample_eq C u x).trans (if_pos hcount)
    have hlen := pskBits_length C (pskCounted C u x) (pskValues C (pskCounted C u x))
    generalize hbits : pskBits C (pskCounted C u x) (pskValues C (pskCounted C u x)) = bits at hlen
    have hdec : p.1.dec = (varicodeDecodeRun C (bits.map bitByte) u.dec).1 := by
      rw [hp, pskSymbol_fst, hbits]
      rfl
    have hevents : p.2 =
        (if p.1.detected = u.detected then []
          else [Event.signal p.1.detected (C.num.toF32 u.centerTuned)]) ++
        if p.1.detected && C.num.le u.squelch p.1.strength then
          (varicodeDecodeRun C (bits.map bitByte) u.dec).2.map fun ch =>
            Event.decode ch (C.num.toF32 u.centerTuned)
        else [] := by
      rw [hp, pskSymbol_snd, hbits]
      rfl
    have hshort : bits.length ≤ 2 := by
      rw [hlen]
      split <;> decide
    obtain ⟨ch, hch⟩ := varicodeDecodeRun_short hw hshort u.dec
    rw [hch] at hevents
    by_cases hgate : (p.1.detected && C.num.le u.squelch p.1.strength) = true
    case pos =>
      refine ⟨ch, bits, ?_, fun k _ => ?_, hlen.trans (if_pos hcount).symm, hdec, ?_⟩
      · rw [hevents, if_pos hgate]
      · obtain ⟨hdetected, hle⟩ := Bool.and_eq_true_iff.mp hgate
        exact ⟨hdetected, hle, hcount⟩
      · rw [if_pos hgate, hch]
    case neg =>
      refine ⟨none, bits, ?_, fun k hk => (Option.not_mem_none k hk).elim,
        hlen.trans (if_pos hcount).symm, hdec, ?_⟩
      · rw [hevents, if_neg hgate]
        rfl
      · rw [if_neg hgate]
        rfl

/-- Settles O53. -/
theorem timingErrorNotFedBack : Obligations.TimingErrorNotFedBack := by
  intro F C u e xs a b
  obtain ⟨e', hb⟩ := pskRun_timingError C u xs e
  have hb' : b = ({ a.1 with timingError := e' }, a.2) := hb
  rw [hb']
  exact ⟨rfl, rfl⟩

/-! ### Over the exact reals -/

section PskReal

variable (r : ℝ → F32)

/-- R257: a region boundary stands 45° below a multiple of 90°. -/
theorem le_region_iff (dp : ℝ) (k : ℤ) :
    k ≤ ⌊(dp + Real.pi / 4) / (Real.pi / 2)⌋ ↔ k * (Real.pi / 2) - Real.pi / 4 ≤ dp := by
  have hpi : 0 < Real.pi / 2 := by positivity
  rw [Int.le_floor, le_div_iff₀ hpi, sub_le_iff_le_add]

theorem exact_qpskRegion (dp : ℝ) :
    qpskRegion (exactConfig r) dp = (⌊(dp + Real.pi / 4) / (Real.pi / 2)⌋ % 4).toNat := by
  simp [qpskRegion]

/-- R257: the four regions. The last of the five quarter turns from `-45°` is the first again. -/
theorem qpskRegion_iff {dp : ℝ} (h0 : 0 ≤ dp) (h1 : dp < 2 * Real.pi) :
    (qpskRegion (exactConfig r) dp = 0 ↔ dp < Real.pi / 4 ∨ 7 * Real.pi / 4 ≤ dp) ∧
      (qpskRegion (exactConfig r) dp = 1 ↔ Real.pi / 4 ≤ dp ∧ dp < 3 * Real.pi / 4) ∧
      (qpskRegion (exactConfig r) dp = 2 ↔ 3 * Real.pi / 4 ≤ dp ∧ dp < 5 * Real.pi / 4) ∧
      (qpskRegion (exactConfig r) dp = 3 ↔ 5 * Real.pi / 4 ≤ dp ∧ dp < 7 * Real.pi / 4) := by
  have hpi := Real.pi_pos
  have hbound (k : ℤ) (b : ℝ) (hb : k * (Real.pi / 2) - Real.pi / 4 = b) :
      b ≤ dp ↔ k ≤ ⌊(dp + Real.pi / 4) / (Real.pi / 2)⌋ := by rw [le_region_iff, hb]
  have hlow : 0 ≤ ⌊(dp + Real.pi / 4) / (Real.pi / 2)⌋ :=
    (hbound 0 _ rfl).mp (by push_cast; linarith)
  have hhigh : ¬ 5 ≤ ⌊(dp + Real.pi / 4) / (Real.pi / 2)⌋ :=
    mt (hbound 5 _ rfl).mpr (by push_cast; linarith)
  have hone := hbound 1 (Real.pi / 4) (by push_cast; ring)
  have htwo := hbound 2 (3 * Real.pi / 4) (by push_cast; ring)
  have hthree := hbound 3 (5 * Real.pi / 4) (by push_cast; ring)
  have hfour := hbound 4 (7 * Real.pi / 4) (by push_cast; ring)
  rw [exact_qpskRegion, ← not_le (b := dp), ← not_le (b := dp), ← not_le (b := dp),
    ← not_le (b := dp), hone, htwo, hthree, hfour]
  omega

/-! ### The ranges (R38 to R40, R255) -/

/-- Cauchy–Schwarz, one more term: the squared sum of `n + 1` pairs is at most `n + 1` times the sum of
their squares. -/
theorem sq_sum_le_energy_step {a b s i q : ℝ} {n : ℕ} (hs : 0 ≤ s) (h : a ^ 2 + b ^ 2 ≤ n * s) :
    (a + i) ^ 2 + (b + q) ^ 2 ≤ ((n + 1 : ℕ) : ℝ) * (s + (i * i + q * q)) := by
  rw [Nat.cast_add_one]
  rcases n.eq_zero_or_pos with hzero | hpos
  case inl =>
    rw [hzero, Nat.cast_zero] at h ⊢
    have ha : a = 0 := by nlinarith [sq_nonneg a, sq_nonneg b]
    have hb : b = 0 := by nlinarith [sq_nonneg a, sq_nonneg b]
    rw [ha, hb]
    linarith
  case inr =>
    have hn : (0 : ℝ) < n := Nat.cast_pos.mpr hpos
    have hcross : n * (2 * (a * i + b * q)) ≤ n * (s + n * (i * i + q * q)) := by
      nlinarith [sq_nonneg (a - n * i), sq_nonneg (b - n * q)]
    have := le_of_mul_le_mul_left hcross hn
    linarith

/-- R260: a difference of two moduli over their sum. -/
theorem abs_timingError_le {eM lM : ℝ} (he : 0 ≤ eM) (hl : 0 ≤ lM) (hsum : 0 < eM + lM) :
    -1 ≤ (lM - eM) / (lM + eM) ∧ (lM - eM) / (lM + eM) ≤ 1 := by
  have hpos : 0 < lM + eM := by linarith
  rw [le_div_iff₀ hpos, div_le_iff₀ hpos]
  constructor <;> linarith

theorem pskCounted_realRanges {u : PskDemod ℝ} (x : ℝ) (h : u.realRanges (exactConfig r)) :
    (pskCounted (exactConfig r) u x).realRanges (exactConfig r) := by
  obtain ⟨-, -, hI, hQ, hs, henergy, hrest⟩ := h
  obtain ⟨-, hphase, hphase'⟩ := exact_wrap r
    ((exactNum r).add u.loPhase
      ((exactNum r).div ((exactNum r).mul (exactNum r).twoPi u.centerTuned) u.par.fs))
  refine ⟨hphase, ?_, ?_, ?_, ?_, ?_, hrest⟩
  · rw [exactConfig_num, exact_twoPi]
    exact hphase'
  · simp only [pskCounted, exactConfig_num, exact_add, hI]
    split <;> ring
  · simp only [pskCounted, exactConfig_num, exact_add, hQ]
    split <;> ring
  · simp only [pskCounted, exactConfig_num, exact_add, exact_mul]
    have := mul_self_nonneg (pskFiltered (exactConfig r) u x).iF
    have := mul_self_nonneg (pskFiltered (exactConfig r) u x).qF
    linarith
  · exact sq_sum_le_energy_step hs henergy

theorem pskSymbol_realRanges {u : PskDemod ℝ} (h : u.realRanges (exactConfig r)) :
    (pskSymbol (exactConfig r) u).1.realRanges (exactConfig r) := by
  obtain ⟨hphase, hphase', -⟩ := h
  rw [pskSymbol_fst]
  refine ⟨hphase, hphase', ?_, ?_, ?_, ?_, ?_, ?_, ?_⟩ <;>
    simp only [pskCleanUp, pskTiming, pskDetect, exactConfig_num, exact_zero, exact_one, exact_clamp]
  · rw [add_zero]
  · rw [add_zero]
  · exact le_refl 0
  · norm_num
  · exact le_min zero_le_one (le_max_left _ _)
  · exact min_le_left _ _
  · simp only [exact_lt, exact_add, exact_sub, exact_div, decide_eq_true_eq]
    split
    case isTrue hsum => exact abs_timingError_le (Real.sqrt_nonneg _) (Real.sqrt_nonneg _) hsum
    case isFalse => norm_num

end PskReal

/-- Settles O54. -/
theorem pskDecisions : Obligations.PskDecisions := by
  intro toF32 C
  refine ⟨fun u v horder => ?_, ?_, fun dp h0 h1 => qpskRegion_iff toF32 h0 h1, rfl, rfl, rfl, rfl⟩
  · simp only [pskBits, horder, bpskBits, C, exactConfig_num, exact_add, exact_mul, exact_lt,
      exact_zero]
  · intro u v horder d dp
    obtain ⟨hwrap, h0, h1⟩ := exact_wrap toF32 d
    have hdp : (exactNum toF32).wrap d = dp := hwrap
    rw [hdp] at h0 h1
    refine ⟨h0, h1, ?_⟩
    have hbits : pskBits C u v = qpskDibit (qpskRegion C ((exactNum toF32).wrap d)) := by
      rw [pskBits, horder]
      rfl
    rw [hbits, hdp]

/-- Settles O55: the part of a sample before the boundary keeps the ranges by Cauchy–Schwarz, one term at
a time; the boundary clears the gates. -/
theorem pskRealRangesKept : Obligations.PskRealRangesKept := by
  intro toF32 u x h
  have hcounted := pskCounted_realRanges toF32 x h
  rw [pskSample_eq]
  split
  · exact pskSymbol_realRanges toF32 hcounted
  · exact hcounted

end Sys2Proof.Machine

/-! PROOFS. The arithmetic over the exact reals: the oscillator's samples (R102), the Goertzel term as a
Fourier sum (R121) and the properties of a bandpass section (R154). -/

namespace Sys2Proof.Machine

/-! ### The oscillator (R102, R345) -/

section OscReal

variable (r : ℝ → F32)

/-- The samples of a run from a phase, with the increment `d`. -/
theorem exact_oscRun_samples (n : Nat) (u : Osc ℝ) :
    (oscRun (exactConfig r) n u).2 =
      (List.range n).map fun k : Nat =>
        r (Real.sin (u.phase + (k : ℝ) * (2 * Real.pi * u.freq / u.par.fs))) := by
  induction n generalizing u with
  | zero => rfl
  | succ n ih =>
    rw [oscRun, ih, List.range_succ_eq_map, List.map_cons, List.map_map]
    refine congrArg₂ List.cons ?_ (List.map_congr_left fun k _ => ?_)
    · simp [oscSample]
    · simp only [oscSample, exactConfig_num, exact_sin_wrap, Function.comp_apply, exact_add, exact_div,
        exact_mul, exact_twoPi, Nat.cast_succ]
      ring_nf

end OscReal

/-- Settles O56. -/
theorem oscSamples : Obligations.OscSamples := fun toF32 u n => exact_oscRun_samples toF32 n u

/-! ### The Goertzel recursion (R120, R121) -/

section Fourier

/-- The sum of a block against a sequence. -/
def blockSum (f : ℕ → ℝ) (xs : List ℝ) : ℝ := ∑ i : Fin xs.length, xs[i] * f i

theorem blockSum_eq_range (f : ℕ → ℝ) (xs : List ℝ) :
    blockSum f xs = ∑ i ∈ Finset.range xs.length, xs.getD i 0 * f i := by
  rw [blockSum, ← Fin.sum_univ_eq_sum_range (fun i => xs.getD i 0 * f i)]
  refine Finset.sum_congr rfl fun i _ => ?_
  rw [List.getD_eq_getElem _ _ i.isLt]
  rfl

theorem blockSum_append_singleton (f : ℕ → ℝ) (xs : List ℝ) (x : ℝ) :
    blockSum f (xs ++ [x]) = blockSum f xs + x * f xs.length := by
  rw [blockSum_eq_range, blockSum_eq_range, List.length_append, List.length_singleton,
    Finset.sum_range_succ]
  refine congrArg₂ (· + ·) (Finset.sum_congr rfl fun i hi => ?_) ?_
  · rw [List.getD_append _ _ _ _ (Finset.mem_range.mp hi)]
  · rw [List.getD_append_right _ _ _ _ le_rfl, Nat.sub_self]
    rfl

variable (r : ℝ → F32)

/-- The two registers after a block are, up to a rotation by the block's length, the real and imaginary
part of its Fourier sum. -/
theorem exact_goertzel_rotated (w : ℝ) (xs : List ℝ) :
    let g := xs.foldl (gstep (exactConfig r) (2 * Real.cos w)) (emptyAcc (exactConfig r))
    let a := blockSum (fun i => Real.cos (w * i)) xs
    let b := blockSum (fun i => Real.sin (w * i)) xs
    a * Real.cos (w * xs.length) + b * Real.sin (w * xs.length) = Real.cos w * g.s1 - g.s2 ∧
      a * Real.sin (w * xs.length) - b * Real.cos (w * xs.length) = Real.sin w * g.s1 := by
  induction xs using List.reverseRecOn with
  | nil => simp [blockSum, emptyAcc]
  | append_singleton xs x ih =>
    obtain ⟨hre, him⟩ := ih
    have hsq := Real.sin_sq_add_cos_sq w
    have hsq' := Real.sin_sq_add_cos_sq (w * xs.length)
    simp only [List.foldl_append, List.foldl_cons, List.foldl_nil, blockSum_append_singleton,
      List.length_append, List.length_singleton, Nat.cast_add_one, mul_add, mul_one, Real.cos_add,
      Real.sin_add, gstep, exactConfig_num, exact_add, exact_sub, exact_mul]
    generalize xs.foldl (gstep (exactConfig r) (2 * Real.cos w)) (emptyAcc (exactConfig r)) = g
      at hre him ⊢
    constructor
    · linear_combination Real.cos w * hre - Real.sin w * him + x * Real.cos w * hsq' - g.s1 * hsq
    · linear_combination Real.sin w * hre + Real.cos w * him + x * Real.sin w * hsq'

end Fourier

/-- Settles O57: a rotation keeps the squared magnitude. -/
theorem goertzelIsFourierSum : Obligations.GoertzelIsFourierSum := by
  intro toF32 fs f xs C c w
  have hc : c = 2 * Real.cos w := by simp [c, goertzelCoef, C, w]
  obtain ⟨hre, him⟩ := exact_goertzel_rotated toF32 w xs
  have hsq := Real.sin_sq_add_cos_sq w
  have hsq' := Real.sin_sq_add_cos_sq (w * xs.length)
  rw [hc]
  change _ = blockSum (fun i => Real.cos (w * i)) xs ^ 2 + blockSum (fun i => Real.sin (w * i)) xs ^ 2
  generalize blockSum (fun i => Real.cos (w * i)) xs = a at hre him ⊢
  generalize blockSum (fun i => Real.sin (w * i)) xs = b at hre him ⊢
  generalize xs.foldl (gstep (exactConfig toF32) (2 * Real.cos w)) (emptyAcc (exactConfig toF32)) = g
    at hre him ⊢
  calc goertzelTerm C (2 * Real.cos w) g
      = (Real.cos w * g.s1 - g.s2) ^ 2 + (Real.sin w * g.s1) ^ 2 := by
        simp only [goertzelTerm, C, exactConfig_num, exact_add, exact_sub, exact_mul, exact_square]
        linear_combination - g.s1 ^ 2 * hsq
    _ = (a * Real.cos (w * xs.length) + b * Real.sin (w * xs.length)) ^ 2 +
          (a * Real.sin (w * xs.length) - b * Real.cos (w * xs.length)) ^ 2 := by rw [hre, him]
    _ = a ^ 2 + b ^ 2 := by linear_combination (a ^ 2 + b ^ 2) * hsq'

/-! ### A bandpass section (R140, R154) -/

section BandpassReal

variable (r : ℝ → F32)

theorem exact_polyModulus (p0 p1 p2 w : ℝ) :
    polyModulus (exactConfig r) p0 p1 p2 w =
      Real.sqrt ((p0 + p1 * Real.cos w + p2 * Real.cos (2 * w)) ^ 2 +
        (p1 * Real.sin w + p2 * Real.sin (2 * w)) ^ 2) := by
  simp only [polyModulus, modulus, exactConfig_num, exact_add, exact_mul, exact_cos, exact_neg,
    exact_sin, exact_sqrt, exact_square, exact_int, Int.cast_ofNat]
  ring_nf

/-- R140: the coefficients by the angle `w` of the centre and `al`, half the sine of it over the
quality. -/
theorem exact_bpfCoef (fs low high : ℝ) :
    let w := 2 * Real.pi * ((low + high) / 2) / fs
    let al := Real.sin w / (2 * ((low + high) / 2 / (high - low)))
    bpfCoef (exactConfig r) fs low high =
      ⟨al / (1 + al), 0, -al / (1 + al), -2 * Real.cos w / (1 + al), (1 - al) / (1 + al)⟩ := by
  simp [bpfCoef]

/-- The section at its centre: the moduli of numerator and denominator are the same. -/
theorem exact_polyModulus_centre {w al : ℝ} (hal : 0 < al) :
    polyModulus (exactConfig r) (al / (1 + al)) 0 (-al / (1 + al)) w =
      polyModulus (exactConfig r) 1 (-2 * Real.cos w / (1 + al)) ((1 - al) / (1 + al)) w := by
  have hpos : (1 + al) ≠ 0 := by positivity
  rw [exact_polyModulus, exact_polyModulus]
  refine congrArg Real.sqrt ?_
  rw [Real.cos_two_mul, Real.sin_two_mul]
  field_simp
  ring

theorem exact_polyModulus_centre_pos {w al : ℝ} (hal : 0 < al) (hsin : 0 < Real.sin w) :
    0 < polyModulus (exactConfig r) (al / (1 + al)) 0 (-al / (1 + al)) w := by
  have hcos : 0 < 1 - Real.cos (2 * w) := by
    rw [Real.cos_two_mul]
    nlinarith [Real.sin_sq_add_cos_sq w]
  have hreal : al / (1 + al) + 0 * Real.cos w + -al / (1 + al) * Real.cos (2 * w) =
      al / (1 + al) * (1 - Real.cos (2 * w)) := by ring
  rw [exact_polyModulus, hreal]
  positivity

end BandpassReal

/-- Settles O58: the angle of the centre lies strictly between 0 and a half turn, so its sine and `al` are
positive and its cosine is less than 1 in size. -/
theorem bandpassProperties : Obligations.BandpassProperties := by
  intro toF32 fs low high hlow hband hhigh C k
  generalize hw : 2 * Real.pi * ((low + high) / 2) / fs = w
  generalize hal : Real.sin w / (2 * ((low + high) / 2 / (high - low))) = al
  have hk : k = ⟨al / (1 + al), 0, -al / (1 + al), -2 * Real.cos w / (1 + al), (1 - al) / (1 + al)⟩ := by
    rw [← hal, ← hw]
    exact exact_bpfCoef toF32 fs low high
  have hfs : 0 < fs := by linarith
  have hhigh0 : 0 < high := by linarith
  have hpi := Real.pi_pos
  have hw0 : 0 < w := by
    rw [← hw]
    positivity
  have hwpi : w < Real.pi := by
    rw [← hw, div_lt_iff₀ hfs]
    nlinarith
  have hsin : 0 < Real.sin w := Real.sin_pos_of_pos_of_lt_pi hw0 hwpi
  have hal0 : 0 < al := by
    have hbw : 0 < high - low := by linarith
    rw [← hal]
    positivity
  have hcos : |Real.cos w| < 1 := by
    rw [← sq_lt_one_iff_abs_lt_one]
    nlinarith [Real.sin_sq_add_cos_sq w]
  have ha0 : 0 < 1 + al := by linarith
  rw [hk]
  refine ⟨?_, ?_, by ring, ?_, ?_⟩
  · simp only [bpfMagnitude, C, exactConfig_num, exact_div, exact_mul, exact_twoPi, exact_one, hw]
    rw [← exact_polyModulus_centre toF32 hal0,
      div_self (exact_polyModulus_centre_pos toF32 hal0 hsin).ne']
  · have hzero : 2 * Real.pi * 0 / fs = 0 := by ring
    have hnum : polyModulus C (al / (1 + al)) 0 (-al / (1 + al)) 0 = 0 := by
      rw [exact_polyModulus]
      simp [neg_div]
    simp only [bpfMagnitude, C, exactConfig_num, exact_div, exact_mul, exact_twoPi, exact_one, hzero]
    rw [hnum, zero_div]
  · rw [abs_div, abs_of_pos ha0, div_lt_one ha0, abs_lt]
    constructor <;> linarith
  · have hsum : 1 + (1 - al) / (1 + al) = 2 / (1 + al) := by
      field_simp
      ring
    rw [hsum, abs_div, abs_of_pos ha0, abs_mul, abs_neg, abs_two]
    gcongr
    linarith

end Sys2Proof.Machine

/-! PROOFS. FSKDEMOD over the exact reals: the ranges of its registers (R33, R36, R226), and a clean frame
received whole (R212 to R217, R345). -/

namespace Sys2Proof.Machine

/-! ### What the step keeps in range -/

section FskReal

variable (r : ℝ → F32)

theorem exact_clamp_range {lo hi : ℝ} (h : lo ≤ hi) (a : ℝ) :
    lo ≤ (exactNum r).clamp a lo hi ∧ (exactNum r).clamp a lo hi ≤ hi :=
  ⟨le_min h (le_max_left _ _), min_le_left _ _⟩

/-- R121: a power is not negative. -/
theorem exact_gwin_nonneg (c : ℝ) (win : List ℝ) : 0 ≤ gwin (exactConfig r) c win := by
  have hclamped (p : ℝ) : 0 ≤ notNegative (exactConfig r) p := by
    simp only [notNegative, exactConfig_num, exact_lt, exact_zero, decide_eq_true_eq]
    split
    case isTrue => exact le_refl 0
    case isFalse hp => exact not_lt.mp hp
  exact hclamped _

/-- R131: the correlation of two powers. -/
theorem exact_correlation_range {pm ps : ℝ} (hm : 0 ≤ pm) (hs : 0 ≤ ps) :
    -1 ≤ correlation (exactConfig r) pm ps ∧ correlation (exactConfig r) pm ps ≤ 1 := by
  simp only [correlation, exactConfig_num, exactConfig_powerFloor, exact_add, exact_sub, exact_div,
    exact_lt, exact_zero, decide_eq_true_eq]
  split
  case isTrue => norm_num
  case isFalse hfloor =>
    have htotal : 0 < pm + ps := lt_of_lt_of_le (by norm_num) (not_lt.mp hfloor)
    rw [le_div_iff₀ htotal, div_le_iff₀ htotal]
    constructor <;> linarith

/-- R207: a history of entries in [0, 1] weighs at most as much as one of ones. -/
theorem exact_weightedSum_range {hist : List ℝ} (h : ∀ x ∈ hist, 0 ≤ x ∧ x ≤ 1) (w : ℕ) (sum : ℝ) :
    sum ≤ weightedSum (exactConfig r) w sum hist ∧
      weightedSum (exactConfig r) w sum hist ≤
        sum + (hist.length * w + hist.length * (hist.length - 1) / 2) := by
  induction hist generalizing w sum with
  | nil => simp [weightedSum]
  | cons x hist ih =>
    obtain ⟨⟨hx0, hx1⟩, hrest⟩ := List.forall_mem_cons.mp h
    obtain ⟨hlow, hhigh⟩ := ih hrest (w + 1) (sum + w * x)
    have hw : (0 : ℝ) ≤ w := Nat.cast_nonneg w
    have hterm : 0 ≤ w * x := mul_nonneg hw hx0
    have hterm' : w * x ≤ w := mul_le_of_le_one_right hw hx1
    rw [weightedSum]
    simp only [exactConfig_num, exact_add, exact_mul, exact_nat, List.length_cons, Nat.cast_add,
      Nat.cast_one] at hlow hhigh ⊢
    constructor <;> linarith

theorem exact_historyStrength_range {hist : List ℝ} (h : ∀ x ∈ hist, 0 ≤ x ∧ x ≤ 1)
    (hlen : hist.length = 8) :
    0 ≤ historyStrength (exactConfig r) hist ∧ historyStrength (exactConfig r) hist ≤ 1 := by
  obtain ⟨hlow, hhigh⟩ := exact_weightedSum_range r h 1 0
  rw [hlen] at hhigh
  have htotal : (weightTotal (exactConfig r) : ℝ) = 36 := by norm_num [weightTotal]
  rw [historyStrength, exactConfig_num, exact_zero, exact_div, exact_nat, htotal,
    div_le_iff₀ (by norm_num)]
  refine ⟨by positivity, ?_⟩
  norm_num at hhigh
  linarith

variable {r}

theorem fskFrontEnd_realRanges {u : FskDemod ℝ} (x : ℝ) (n : ℕ)
    (h : u.realRanges (exactConfig r)) :
    FskDemod.realRanges (exactConfig r)
      { fskFrontEnd (exactConfig r) u x with sampleCount := n } := by
  obtain ⟨-, -, hrest⟩ := h
  have hgain := exact_clamp_range r (lo := (exactConfig r).gainMin) (hi := (exactConfig r).gainMax)
    (by norm_num)
  exact ⟨(hgain _).1, (hgain _).2, hrest⟩

/-- R206 to R208. -/
theorem fskMeasure_realRanges {u : FskDemod ℝ} (h : u.realRanges (exactConfig r)) :
    (fskMeasure (exactConfig r) u).realRanges (exactConfig r) := by
  obtain ⟨hgain, hgain', -, -, hhist, hlen, -, -, -, -, hconf⟩ := h
  have hmark := exact_gwin_nonneg r (u.cM (exactConfig r)) u.analysisWindow
  have hspace := exact_gwin_nonneg r (u.cS (exactConfig r)) u.analysisWindow
  generalize hp : gwin (exactConfig r) (u.cM (exactConfig r)) u.analysisWindow = pm at hmark
  generalize hq : gwin (exactConfig r) (u.cS (exactConfig r)) u.analysisWindow = ps at hspace
  have hcorr : (fskMeasure (exactConfig r) u).corr =
      if u.reverse then -correlation (exactConfig r) pm ps
      else correlation (exactConfig r) pm ps := by
    rw [← hp, ← hq]
    rfl
  obtain ⟨hcorr0, hcorr1⟩ := exact_correlation_range r hmark hspace
  have hnext : (fskMeasure (exactConfig r) u).hist =
      u.hist.drop 1 ++ [min 1 ((pm + ps) / (1 / 2 * (1 / 2)))] := by
    simp only [fskMeasure, fskNoiseFloor, fskStrength, fskPowers, fskCorrelate, hp, hq,
      exactConfig_num, exact_min, exact_one, exact_div, exact_add, exact_mul, exactConfig_agcTarget]
  have hentries : ∀ x ∈ (fskMeasure (exactConfig r) u).hist, 0 ≤ x ∧ x ≤ 1 := by
    rw [hnext, List.forall_mem_append]
    refine ⟨fun x hx => hhist x (List.mem_of_mem_drop hx), fun x hx => ?_⟩
    rw [List.mem_singleton.mp hx]
    exact ⟨by positivity, min_le_left _ _⟩
  have hlen' : (fskMeasure (exactConfig r) u).hist.length = 8 := by
    rw [hnext, List.length_append, List.length_drop, hlen]
    rfl
  obtain ⟨hstrength0, hstrength1⟩ := exact_historyStrength_range r hentries hlen'
  have hfloor := exact_clamp_range r (lo := (exactConfig r).nfMin) (hi := (exactConfig r).nfMax)
    (by norm_num)
  refine ⟨hgain, hgain', ?_, ?_, hentries, hlen', hstrength0, hstrength1, (hfloor _).1, (hfloor _).2,
    hconf⟩ <;>
  · rw [hcorr]
    split <;> linarith

/-- R209 to R211 write none of the registers meant. -/
theorem stepInput_realRanges {u : FskDemod ℝ} (h : u.realRanges (exactConfig r)) :
    (stepInput (exactConfig r) u).realRanges (exactConfig r) := by
  rw [stepInput, (fskRetune_eq _ _).1, fskAfcScan_eq]
  exact fskMeasure_realRanges h

/-- R212 to R217: the confidence of the frame. -/
theorem fskMachine_minConf_range (sq : ℝ) {u : FskDemod ℝ} (h : 0 ≤ u.minConf ∧ u.minConf ≤ 1) :
    0 ≤ (fskMachine (exactConfig r) sq u).1.minConf ∧
      (fskMachine (exactConfig r) sq u).1.minConf ≤ 1 := by
  have hone : 0 ≤ (exactNum r).one ∧ (exactNum r).one ≤ 1 := by norm_num
  cases hphase : u.phase with
  | waitingForStart =>
    rw [fskMachine_of_waiting _ _ hphase, fskWaitingForStart]
    split <;> exact h
  | inStartBit =>
    rw [fskMachine_of_start _ _ hphase, fskInStartBit]
    dsimp only
    split
    · split
      · exact h
      · exact hone
    · exact hone
  | receivingData =>
    have hconf : 0 ≤ (exactNum r).min u.minConf (fskConfidence (exactConfig r) u.corr) ∧
        (exactNum r).min u.minConf (fskConfidence (exactConfig r) u.corr) ≤ 1 := by
      refine ⟨le_min h.1 ?_, min_le_of_left_le h.2⟩
      simp only [fskConfidence, exactConfig_num, exact_zero, exact_one]
      exact (exact_clamp_range r zero_le_one _).1
    rw [fskMachine_of_data _ _ hphase, fskReceivingData]
    dsimp only
    split
    · exact hconf
    · split
      · split <;> exact h
      · exact h
  | inStopBits =>
    rw [fskMachine_of_stop _ _ hphase, fskInStopBits]
    dsimp only
    split
    · exact hone
    · exact h

theorem fskSample_realRanges {u : FskDemod ℝ} (x : ℝ) (h : u.realRanges (exactConfig r)) :
    (fskSample (exactConfig r) u x).1.realRanges (exactConfig r) := by
  by_cases hcount : u.sampleCount + 1 = u.par.step (exactConfig r)
  case neg =>
    rw [fskSample_of_incomplete _ u x hcount]
    exact fskFrontEnd_realRanges x _ h
  case pos =>
    rw [fskSample_of_complete _ u x hcount, fskStep_eq, fskMachine_eq]
    obtain ⟨hgain, hgain', hcorr, hcorr', hhist, hlen, hs, hs', hnf, hnf', hconf⟩ :=
      stepInput_realRanges (fskFrontEnd_realRanges x 0 h)
    exact ⟨hgain, hgain', hcorr, hcorr', hhist, hlen, hs, hs', hnf, hnf',
      fskMachine_minConf_range _ hconf⟩

end FskReal

/-! ### A frame (R212 to R217) -/

section Drive

variable {F : Type} (C : Config F) (sq : F)

theorem fskDrive_append (cs ds : List F) (u : FskDemod F) :
    fskDrive C sq (cs ++ ds) u =
      ((fskDrive C sq ds (fskDrive C sq cs u).1).1,
        (fskDrive C sq cs u).2 ++ (fskDrive C sq ds (fskDrive C sq cs u).1).2) := by
  induction cs generalizing u with
  | nil => rfl
  | cons c cs ih => simp only [List.cons_append, fskDrive, ih, List.append_assoc]

end Drive

section Frame

/-- R214: a code with the bit at an index set or left. -/
def withBit (code : BitVec 5) (bit : Bool) (i : ℕ) : BitVec 5 :=
  code ||| (if bit then (1 : BitVec 5) <<< i else 0)

/-- The code of five bits, the first in place 0. -/
def frameCode (bit : Fin 5 → Bool) : BitVec 5 :=
  (List.finRange 5).foldl (fun code b => withBit code (bit b) b.val) 0

theorem frameCode_getLsbD : ∀ (bit : Fin 5 → Bool) (b : Fin 5),
    (frameCode bit).getLsbD b.val = bit b := by
  decide

variable (r : ℝ → F32) (sq : ℝ) {u : FskDemod ℝ}

/-- R214: the four steps of a data bit before the last, sampled at the third. -/
theorem fskDrive_dataBit (a b c d : ℝ) (hphase : u.phase = .receivingData) (htick : u.tick = 0)
    (hindex : u.bitIndex ≠ 4) :
    fskDrive (exactConfig r) sq [a, b, c, d] u =
      ({ u with
          corr := d
          tick := 0
          bitIndex := u.bitIndex + 1
          code := withBit u.code (decide (0 < c)) u.bitIndex
          minConf := min u.minConf (fskConfidence (exactConfig r) c) }, []) := by
  simp [fskDrive, fskMachine, hphase, htick, hindex, fskReceivingData, fskCodeWithBit, withBit]

/-- R214: the four steps of the last data bit. -/
theorem fskDrive_lastDataBit (a b c d : ℝ) (hphase : u.phase = .receivingData) (htick : u.tick = 0)
    (hindex : u.bitIndex = 4) :
    fskDrive (exactConfig r) sq [a, b, c, d] u =
      ({ u with
          corr := d
          tick := 0
          code := withBit u.code (decide (0 < c)) 4
          minConf := min u.minConf (fskConfidence (exactConfig r) c)
          phase := .inStopBits }, []) := by
  simp [fskDrive, fskMachine, hphase, htick, hindex, fskReceivingData, fskCodeWithBit, withBit]

/-- R212, R213: the three steps from the detection of a start bit to its end. -/
theorem fskDrive_startBit (a b c : ℝ) (hphase : u.phase = .waitingForStart) (ha : a < -(1 / 5))
    (hb : b < 0) :
    fskDrive (exactConfig r) sq [a, b, c] u =
      ({ u with
          corr := c
          tick := 0
          bitIndex := 0
          code := 0
          minConf := 1
          phase := .receivingData }, []) := by
  simp only [fskDrive, fskMachine, hphase, fskWaitingForStart, fskInStartBit, exactConfig_sampleTick,
    exactConfig_num, exactConfig_thresh, exact_lt, exact_neg, exact_zero, exact_one, ha, hb,
    decide_true, if_true]
  norm_num

/-- R215, R216: the three steps of the stop bit of a frame that passes. -/
theorem fskDrive_stopBit (a b c : ℝ) (hphase : u.phase = .inStopBits) (htick : u.tick = 0)
    (hc : 1 / 5 < c) (hsq : sq ≤ u.strength) (hconf : u.par.minConfidence ≤ u.minConf) :
    fskDrive (exactConfig r) sq [a, b, c] u =
      ({ u with
          corr := c
          phase := .waitingForStart
          tick := 0
          bitIndex := 0
          code := 0
          minConf := 1
          dec := (baudotDecodeCode (exactConfig r) u.dec u.code.toNat).1 },
        (baudotDecodeCode (exactConfig r) u.dec u.code.toNat).2.toList.map fun ch =>
          Event.decode ch (r u.markTuned)) := by
  have hearly (v : FskDemod ℝ) (hv : v.phase = .inStopBits) (ht : v.tick + 1 ≠ 3) :
      fskMachine (exactConfig r) sq v = ({ v with tick := v.tick + 1 }, []) :=
    (fskMachine_of_stop _ _ hv).trans (fskInStopBits_of_early _ ht)
  have hfirst : fskMachine (exactConfig r) sq { u with corr := a } =
      ({ u with corr := a, tick := 1 }, []) :=
    (hearly { u with corr := a } hphase (by simp [htick])).trans (by simp [htick])
  have hsecond : fskMachine (exactConfig r) sq { u with corr := b, tick := 1 } =
      ({ u with corr := b, tick := 2 }, []) :=
    hearly { u with corr := b, tick := 1 } hphase (by simp)
  have hpasses : framePasses (exactConfig r) sq { u with corr := c, tick := 2 } :=
    ⟨by simpa using hc, by simpa using hsq, by simpa using hconf⟩
  have hthird := (fskMachine_of_stop (exactConfig r) sq (u := { u with corr := c, tick := 2 })
    hphase).trans (fskInStopBits_of_passes (exactConfig r) rfl hpasses)
  simp only [fskDrive, hfirst, hsecond, hthird]
  simp only [fskEnterWaiting, exactConfig_num, exact_one, exact_toF32, List.nil_append,
    List.append_nil]

/-- Start bit, five data bits and stop bit, one after another. -/
theorem fskDrive_frame (c : Fin 26 → ℝ) (hphase : u.phase = .waitingForStart)
    (hindex : u.bitIndex = 0) (hcode : u.code = 0) (h0 : c 0 < -(1 / 5)) (h1 : c 1 < 0)
    (h25 : 1 / 5 < c 25) (hsq : sq ≤ u.strength) (hone : u.par.minConfidence ≤ 1)
    (hconf : ∀ b : Fin 5,
      u.par.minConfidence ≤ fskConfidence (exactConfig r) (c ⟨5 + 4 * b.val, by omega⟩)) :
    let code := frameCode fun b => decide (0 < c ⟨5 + 4 * b.val, by omega⟩)
    fskDrive (exactConfig r) sq (List.ofFn c) u =
      ({ u with
          corr := c 25
          tick := 0
          minConf := 1
          dec := (baudotDecodeCode (exactConfig r) u.dec code.toNat).1 },
        ((baudotDecodeCode (exactConfig r) u.dec code.toNat).2.toList.map fun ch =>
          Event.decode ch (r u.markTuned))) := by
  intro code
  have hlist : List.ofFn c =
      [c 0, c 1, c 2] ++ ([c 3, c 4, c 5, c 6] ++ ([c 7, c 8, c 9, c 10] ++ ([c 11, c 12, c 13, c 14] ++
        ([c 15, c 16, c 17, c 18] ++ ([c 19, c 20, c 21, c 22] ++ [c 23, c 24, c 25]))))) := rfl
  have hmin : u.par.minConfidence ≤ min (min (min (min (min 1 (fskConfidence (exactConfig r) (c 5)))
      (fskConfidence (exactConfig r) (c 9))) (fskConfidence (exactConfig r) (c 13)))
      (fskConfidence (exactConfig r) (c 17))) (fskConfidence (exactConfig r) (c 21)) :=
    le_min (le_min (le_min (le_min (le_min hone (hconf 0)) (hconf 1)) (hconf 2)) (hconf 3)) (hconf 4)
  have hcodes : withBit (withBit (withBit (withBit (withBit 0 (decide (0 < c 5)) 0)
      (decide (0 < c 9)) 1) (decide (0 < c 13)) 2) (decide (0 < c 17)) 3) (decide (0 < c 21)) 4 =
      code := rfl
  rw [hlist, fskDrive_append, fskDrive_startBit r sq _ _ _ hphase h0 h1]
  simp only [fskDrive_append, fskDrive_dataBit, fskDrive_lastDataBit, ne_eq, Nat.reduceAdd,
    Nat.reduceEqDiff, not_false_eq_true, zero_add, OfNat.zero_ne_ofNat, OfNat.one_ne_ofNat, hcodes]
  rw [fskDrive_stopBit]
  · simp only [hphase, hindex, hcode, List.nil_append]
  · rfl
  · rfl
  · exact h25
  · exact hsq
  · exact hmin

end Frame

/-- Settles O50. -/
theorem fskRealRangesKept : Obligations.FskRealRangesKept := fun _ _ x h => fskSample_realRanges x h

/-- Settles O45. -/
theorem fskFrameReceived : Obligations.FskFrameReceived := by
  intro toF32 u sq c C hphase hindex hcode hmin h0 h1 h25 hsq hone hconf
  have hthresh : (0.2 : ℝ) = 1 / 5 := by norm_num
  rw [hthresh] at h0 h25
  exact ⟨_, frameCode_getLsbD _,
    fskDrive_frame toF32 sq c hphase hindex hcode h0 h1 h25 hsq hone hconf⟩

end Sys2Proof.Machine

/-! PROOFS. Binary64, the default realisation: the conversion of a sample is exact (R9), and zeros stay
zeros through a bandpass section (R142, log 13). -/

namespace Sys2Proof.Machine

/-! ### Zeros (log 13) -/

/-- The zero of binary64 with this sign. -/
def signedZero (neg : Bool) : F64 := ⟨BitVec.ofNat 64 (if neg then 2 ^ 63 else 0)⟩

theorem pack_zero (neg : Bool) : F64.pack neg 0 = some (signedZero neg) := by cases neg <;> rfl

@[simp] theorem signedZero_isFinite (neg : Bool) : (signedZero neg).isFinite = true := by
  cases neg <;> rfl

@[simp] theorem signedZero_toDyadic (neg : Bool) : (signedZero neg).toDyadic = ⟨neg, 0, -1074⟩ := by
  cases neg <;> rfl

theorem round_zero (neg : Bool) (exp : Int) :
    F64.round neg 0 exp false = some (signedZero neg) := pack_zero neg

theorem toDyadic_neg (a : F64) : a.toDyadic.neg = a.sign := by
  unfold F64.toDyadic
  dsimp only
  split <;> rfl

/-- A finite number times a zero is a zero; the signs multiply. -/
theorem mul_signedZero {a : F64} (h : a.isFinite = true) (neg : Bool) :
    F64.mul a (signedZero neg) = signedZero (a.sign != neg) := by
  simp only [F64.mul, F64.lift, h, signedZero_isFinite, Bool.and_self, if_true, mulDyadic,
    signedZero_toDyadic, toDyadic_neg, mul_zero, round_zero, Option.getD_some]

theorem add_signedZero (a b : Bool) :
    F64.add (signedZero a) (signedZero b) = signedZero (a && b) := by
  cases a <;> cases b <;> rfl

theorem sub_signedZero (a b : Bool) :
    F64.sub (signedZero a) (signedZero b) = signedZero (a && !b) := by
  cases a <;> cases b <;> rfl

theorem toF32_signedZero (neg : Bool) :
    F64.toF32 (signedZero neg) = ⟨BitVec.ofNat 32 (if neg then 2 ^ 31 else 0)⟩ := by
  cases neg <;> rfl

/-- The interface sees a zero as a finite number of value 0. -/
theorem toF32_signedZero_value (neg : Bool) :
    (F64.toF32 (signedZero neg)).toReal = 0 ∧ (F64.toF32 (signedZero neg)).isFinite = true := by
  rw [toF32_signedZero]
  cases neg
  · exact ⟨by simp [F32.toReal, F32.toDyadic], rfl⟩
  · exact ⟨by simp [F32.toReal, F32.toDyadic], rfl⟩

theorem mant_eq_zero_of_toReal {x : F32} (h : x.toReal = 0) : x.toDyadic.mant = 0 := by
  have hsign : (if x.toDyadic.neg then (-1 : ℝ) else 1) ≠ 0 := by split <;> norm_num
  have hpow : (2 : ℝ) ^ x.toDyadic.exp ≠ 0 := zpow_ne_zero _ two_ne_zero
  rw [F32.toReal, mul_eq_zero, mul_eq_zero] at h
  exact Nat.cast_eq_zero.mp ((h.resolve_right hpow).resolve_left hsign)

theorem ofF32_of_mant_zero {x : F32} (hfin : x.isFinite = true) (h : x.toDyadic.mant = 0) :
    F64.ofF32 x = signedZero x.toDyadic.neg := by
  rw [F64.ofF32, if_pos hfin, h, round_zero, Option.getD_some]

/-! ### A section over zeros (R141, R142) -/

section ZeroSection

variable {k : BpfCoef F64}

/-- The coefficients of a section are numbers, and `b1` is the constant +0 of R140. -/
structure FiniteCoef (k : BpfCoef F64) : Prop where
  b0 : k.b0.isFinite = true
  b1 : k.b1 = signedZero false
  b2 : k.b2.isFinite = true
  a1 : k.a1.isFinite = true
  a2 : k.a2.isFinite = true

/-- The sign of the zero that the difference equation gives from zeros. -/
def zeroSign (k : BpfCoef F64) (x x1 x2 y1 y2 : Bool) : Bool :=
  (k.b0.sign != x) && x1 && (k.b2.sign != x2) && !(k.a1.sign != y1) && !(k.a2.sign != y2)

theorem bstep_signedZero (hk : FiniteCoef k) (x x1 x2 y1 y2 : Bool) :
    bstep machineConfig k ⟨signedZero x1, signedZero x2, signedZero y1, signedZero y2⟩
        (signedZero x) =
      (⟨signedZero x, signedZero x1, signedZero (zeroSign k x x1 x2 y1 y2), signedZero y1⟩,
        signedZero (zeroSign k x x1 x2 y1 y2)) := by
  have hb1 : F64.mul k.b1 (signedZero x1) = signedZero x1 := by
    rw [hk.b1, mul_signedZero (signedZero_isFinite false)]
    cases x1 <;> rfl
  have hy : F64.sub (F64.sub (F64.add (F64.add (F64.mul k.b0 (signedZero x))
      (F64.mul k.b1 (signedZero x1))) (F64.mul k.b2 (signedZero x2)))
      (F64.mul k.a1 (signedZero y1))) (F64.mul k.a2 (signedZero y2)) =
      signedZero (zeroSign k x x1 x2 y1 y2) := by
    rw [hb1, mul_signedZero hk.b0, mul_signedZero hk.b2, mul_signedZero hk.a1, mul_signedZero hk.a2,
      add_signedZero, add_signedZero, sub_signedZero, sub_signedZero]
    rfl
  exact congrArg
    (fun y => ((⟨signedZero x, signedZero x1, y, signedZero y1⟩, y) : BpfMem F64 × F64)) hy

/-- Every sample of a run of zeros, through a memory of zeros, gives a zero. -/
theorem filterRun_signedZero (hk : FiniteCoef k) {xs : List F64} (hxs : ∀ x ∈ xs, ∃ s, x = signedZero s)
    (x1 x2 y1 y2 : Bool) :
    ∀ y ∈ (filterRun machineConfig (bstep machineConfig k) xs
        ⟨signedZero x1, signedZero x2, signedZero y1, signedZero y2⟩).2,
      ∃ s, y = F64.toF32 (signedZero s) := by
  induction xs generalizing x1 x2 y1 y2 with
  | nil => exact fun y hy => absurd hy List.not_mem_nil
  | cons x xs ih =>
    obtain ⟨⟨s, rfl⟩, hrest⟩ := List.forall_mem_cons.mp hxs
    rw [filterRun, bstep_signedZero hk]
    exact List.forall_mem_cons.mpr ⟨⟨_, rfl⟩, ih hrest _ _ _ _⟩

end ZeroSection

/-- Settles O60. -/
theorem zeroAfterReset : Obligations.ZeroAfterReset := by
  intro s t u hs hcoef hreset
  obtain ⟨hb0, hb2, ha1, ha2⟩ := hcoef
  have hk : FiniteCoef (u.par.coef machineConfig) := ⟨hb0, rfl, hb2, ha1, ha2⟩
  obtain ⟨t', hexec, ht, -⟩ := completesWith_bpfReset hs
  have hsame : t' = t := by
    rw [hexec] at hreset
    cases hreset
    rfl
  rw [hsame] at ht
  constructor
  · have hprocess := completesWith_bpfProcess ht (x := ⟨0⟩) rfl
    have hstep : bstep machineConfig (u.par.coef machineConfig) (clearMem machineConfig)
        (b64.ofF32 ⟨0⟩) =
        (⟨signedZero false, signedZero false, signedZero false, signedZero false⟩,
          signedZero false) := by
      have hsign : zeroSign (u.par.coef machineConfig) false false false false false = false := by
        simp [zeroSign]
      have hbstep := bstep_signedZero hk false false false false false
      rw [hsign] at hbstep
      exact hbstep
    rw [hstep] at hprocess
    exact ⟨_, hprocess, rfl, rfl⟩
  · intro zeros hzeros
    refine ⟨_, _, completesWith_bpfProcessBlock ht fun z hz => (hzeros z hz).2, ?_, fun y hy => ?_⟩
    · rw [filterRun_length, List.length_map]
    · have hsamples : ∀ x ∈ zeros.map b64.ofF32, ∃ s, x = signedZero s := by
        intro x hx
        obtain ⟨z, hz, rfl⟩ := List.mem_map.mp hx
        obtain ⟨hzero, hfin⟩ := hzeros z hz
        exact ⟨_, ofF32_of_mant_zero hfin (mant_eq_zero_of_toReal hzero)⟩
      obtain ⟨neg, rfl⟩ := filterRun_signedZero hk hsamples false false false false y hy
      exact toF32_signedZero_value neg

/-! ### The conversion of a sample (R9) -/

section Conversion

/-- The value of a finite pattern: at most 24 bits, a unit of at least `2^-149`, which is that where the
number is not normal; the pattern is the sign and the two as its fields. -/
theorem F32_fields {x : F32} (hfin : x.isFinite = true) :
    x.toDyadic.mant < 2 ^ 24 ∧ -149 ≤ x.toDyadic.exp ∧ x.toDyadic.exp ≤ 104 ∧
      (x.toDyadic.mant < 2 ^ 23 → x.toDyadic.exp = -149) ∧
      x.bits.toNat = (if x.toDyadic.neg then 2 ^ 31 else 0) +
        ((x.toDyadic.exp + 149).toNat * 2 ^ 23 + x.toDyadic.mant) := by
  have hbits := x.bits.isLt
  have hexp : ¬ (x.bits.toNat >>> 23) % 256 = 255 := by simpa [F32.isFinite] using hfin
  have hsign : (if x.toDyadic.neg then 2 ^ 31 else 0) = x.bits.toNat / 2 ^ 31 * 2 ^ 31 := by
    have hneg : x.toDyadic.neg = (x.bits.toNat >>> 31 == 1) := by
      unfold F32.toDyadic
      dsimp only
      split <;> rfl
    rw [hneg, Nat.shiftRight_eq_div_pow]
    by_cases h : x.bits.toNat / 2 ^ 31 = 1
    · rw [h]
      rfl
    · rw [if_neg (by simpa using h)]
      omega
  rw [hsign]
  rw [Nat.shiftRight_eq_div_pow] at hexp
  unfold F32.toDyadic
  simp only [Nat.shiftRight_eq_div_pow]
  split <;> dsimp only <;> omega

/-- A pattern of binary64 from its fields. -/
theorem pack_fields (neg : Bool) {m t : ℕ} (hm : 2 ^ 52 ≤ m) (hm' : m < 2 ^ 53) (ht : t < 2046) :
    ∃ y, F64.pack neg (t * 2 ^ 52 + m) = some y ∧ y.isFinite = true ∧
      y.toDyadic = ⟨neg, m, (t : ℤ) - 1074⟩ := by
  refine ⟨_, if_pos (by omega), ?_⟩
  have hbits : (BitVec.ofNat 64 (if neg then 2 ^ 63 + (t * 2 ^ 52 + m) else t * 2 ^ 52 + m)).toNat =
      (if neg then 2 ^ 63 else 0) + (t * 2 ^ 52 + m) := by
    rw [BitVec.toNat_ofNat, Nat.mod_eq_of_lt] <;> split <;> omega
  have hexp : ((if neg then 2 ^ 63 else 0) + (t * 2 ^ 52 + m)) / 2 ^ 52 % 2048 = t + 1 := by
    split <;> omega
  have hfrac : ((if neg then 2 ^ 63 else 0) + (t * 2 ^ 52 + m)) % 2 ^ 52 = m - 2 ^ 52 := by
    split <;> omega
  have hsign : (((if neg then 2 ^ 63 else 0) + (t * 2 ^ 52 + m)) / 2 ^ 63 == 1) = neg := by
    cases neg
    · simp only [Bool.false_eq_true, if_false, beq_eq_false_iff_ne, ne_eq]
      omega
    · simp only [if_true, beq_iff_eq]
      omega
  constructor
  · rw [F64.isFinite, hbits, Nat.shiftRight_eq_div_pow, hexp, bne_iff_ne]
    omega
  · rw [F64.toDyadic, F64.sign, hbits, Nat.shiftRight_eq_div_pow, Nat.shiftRight_eq_div_pow, hexp, hfrac,
      hsign]
    rw [if_neg (Nat.succ_ne_zero t), Nat.add_sub_cancel' hm]
    congr 1
    omega

/-- The binary logarithm of a number of at most 24 bits, and that number shifted to 53 bits. -/
theorem shifted_bounds {m : ℕ} (hm0 : m ≠ 0) (hm : m < 2 ^ 24) :
    m.log2 < 24 ∧ 2 ^ 52 ≤ m * 2 ^ (52 - m.log2) ∧ m * 2 ^ (52 - m.log2) < 2 ^ 53 := by
  have hlog : m.log2 < 24 := (Nat.log2_lt hm0).mpr hm
  refine ⟨hlog, ?_, ?_⟩
  · calc 2 ^ 52 = 2 ^ m.log2 * 2 ^ (52 - m.log2) := by rw [← pow_add]; congr 1; omega
      _ ≤ m * 2 ^ (52 - m.log2) := Nat.mul_le_mul_right _ (Nat.log2_self_le hm0)
  · calc m * 2 ^ (52 - m.log2) < 2 ^ (m.log2 + 1) * 2 ^ (52 - m.log2) :=
        Nat.mul_lt_mul_of_pos_right Nat.lt_log2_self (by positivity)
      _ = 2 ^ 53 := by rw [← pow_add]; congr 1; omega

/-- Rounding a number of at most 24 bits to binary64 is exact: the number is shifted to 53 bits. -/
theorem round_exact (neg : Bool) {m : ℕ} {e : ℤ} (hm0 : m ≠ 0) (hm : m < 2 ^ 24) (he : -149 ≤ e)
    (he' : e ≤ 104) :
    ∃ y, F64.round neg m e false = some y ∧ y.isFinite = true ∧
      y.toDyadic = ⟨neg, m * 2 ^ (52 - m.log2), e + m.log2 - 52⟩ := by
  obtain ⟨hlog, hlow, hhigh⟩ := shifted_bounds hm0 hm
  have hunit : max (e + (m.log2 + 1 : ℕ) - (53 : ℕ)) (-1074) = e + m.log2 - 52 := by omega
  have hshift : (e - (e + m.log2 - 52)).toNat = 52 - m.log2 := by omega
  obtain ⟨t, ht⟩ : ∃ t : ℕ, e + m.log2 - 52 - -1074 = t :=
    ⟨(e + m.log2 - 52 - -1074).toNat, by omega⟩
  obtain ⟨y, hy, hfin, hval⟩ := pack_fields neg hlow hhigh (t := t) (by omega)
  refine ⟨y, ?_, hfin, ?_⟩
  · rw [F64.round, roundMagnitude, if_neg hm0]
    simp only [hunit, hshift, ht, Int.toNat_natCast, Nat.shiftLeft_eq]
    rw [if_pos (by omega)]
    exact hy
  · rw [hval]
    congr 1
    omega

/-- Rounding that number back to binary32 drops the zero bits again. -/
theorem roundMagnitude_back {m : ℕ} {e : ℤ} (hm0 : m ≠ 0) (hm : m < 2 ^ 24) (he : -149 ≤ e)
    (hsub : m < 2 ^ 23 → e = -149) :
    roundMagnitude 24 (-149) (m * 2 ^ (52 - m.log2)) (e + m.log2 - 52) false =
      (e + 149).toNat * 2 ^ 23 + m := by
  obtain ⟨hlog, hlow, hhigh⟩ := shifted_bounds hm0 hm
  have hpos : m * 2 ^ (52 - m.log2) ≠ 0 := by omega
  have hlog' : (m * 2 ^ (52 - m.log2)).log2 = 52 := (Nat.log2_eq_iff hpos).mpr ⟨hlow, hhigh⟩
  have hnormal : m.log2 < 23 → e = -149 := fun h => hsub ((Nat.log2_lt hm0).mp h)
  have hunit : max (e + m.log2 - 52 + (52 + 1 : ℕ) - (24 : ℕ)) (-149) = e := by omega
  have hdrop : (e - (e + m.log2 - 52)).toNat = 52 - m.log2 := by omega
  have hhalf : 0 < 2 ^ (52 - m.log2 - 1) := by positivity
  rw [roundMagnitude, if_neg hpos, hlog']
  simp only [hunit, hdrop, Nat.shiftRight_eq_div_pow, Nat.mul_mod_left]
  rw [if_neg (by omega), Nat.mul_div_cancel _ (by positivity), if_neg]
  · rfl
  · simp only [Bool.or_eq_true, Bool.and_eq_true, decide_eq_true_eq, beq_iff_eq, not_or, not_and]
    omega

/-- A shift of the bits against the unit keeps the value. -/
theorem shifted_value (m : ℕ) (e : ℤ) {k : ℕ} (hk : k ≤ 52) :
    ((m * 2 ^ (52 - k) : ℕ) : ℝ) * (2 : ℝ) ^ (e + k - 52) = m * (2 : ℝ) ^ e := by
  have hexp : e + k - 52 = e - (52 - k : ℕ) := by omega
  rw [hexp, zpow_sub₀ two_ne_zero, zpow_natCast, Nat.cast_mul, Nat.cast_pow, Nat.cast_ofNat]
  field_simp

theorem F32_eq_of_toNat {x : F32} {n : ℕ} (h : x.bits.toNat = n) : ⟨BitVec.ofNat 32 n⟩ = x := by
  rw [← h, BitVec.ofNat_toNat, BitVec.setWidth_eq]

/-- A binary64 number whose magnitude rounds to the fields of a finite binary32 pattern converts to that
pattern. -/
theorem toF32_of_fields {x : F32} {y : F64} (hfin : x.isFinite = true) (hy : y.isFinite = true)
    (hneg : y.toDyadic.neg = x.toDyadic.neg)
    (hround : roundMagnitude 24 (-149) y.toDyadic.mant y.toDyadic.exp false =
      (x.toDyadic.exp + 149).toNat * 2 ^ 23 + x.toDyadic.mant) :
    F64.toF32 y = x := by
  obtain ⟨hmant, -, hexp, -, hbits⟩ := F32_fields hfin
  rw [F64.toF32, if_pos hy]
  dsimp only
  rw [hround, hneg, if_pos (by omega)]
  refine F32_eq_of_toNat (hbits.trans ?_)
  split
  · rfl
  · rw [zero_add]

end Conversion

/-- Settles O59. -/
theorem sampleConversionExact : Obligations.SampleConversionExact := by
  intro x hfin
  obtain ⟨hmant, hexp, hexp', hsub, hbits⟩ := F32_fields hfin
  by_cases hzero : x.toDyadic.mant = 0
  case pos =>
    have hconv : b64.ofF32 x = signedZero x.toDyadic.neg := ofF32_of_mant_zero hfin hzero
    rw [hconv]
    refine ⟨signedZero_isFinite _, ?_, ?_⟩
    · rw [F64.toReal, F32.toReal, signedZero_toDyadic, hzero]
      simp
    · refine toF32_of_fields hfin (signedZero_isFinite _) (by rw [signedZero_toDyadic]) ?_
      rw [signedZero_toDyadic, hzero, hsub (by omega)]
      rfl
  case neg =>
    obtain ⟨y, hround, hy, hval⟩ := round_exact x.toDyadic.neg hzero hmant hexp hexp'
    have hconv : b64.ofF32 x = y := by
      change F64.ofF32 x = y
      rw [F64.ofF32, if_pos hfin, hround, Option.getD_some]
    rw [hconv]
    refine ⟨hy, ?_, ?_⟩
    · obtain ⟨hlog, -, -⟩ := shifted_bounds hzero hmant
      rw [F64.toReal, F32.toReal, hval, mul_assoc, mul_assoc, shifted_value _ _ (by omega)]
    · refine toF32_of_fields hfin hy (by rw [hval]) ?_
      rw [hval]
      exact roundMagnitude_back hzero hmant hexp hsub

end Sys2Proof.Machine
